-- ==== Sys2Proof/Word.lean ====
section
/-! DEFINITION. The word types of QCNEG: the two kinds of instruction word and the widths of the
operands and counters (R8, R10 of 00_scope.md; R70 of 30_encoding.md). All values are unsigned and
bit 0 is the least significant (R10). -/

namespace Sys2Proof

/-- A command word, 32 bits, written by the host to the command port (R70). -/
abbrev CmdWord := BitVec 32

/-- A micro-operation word, 4 bits, issued to a line driver inside the block (R70, R75). -/
abbrev UopWord := BitVec 4

/-- A voltage in unsigned millivolts, `MV_W` = 12 bits (R8, R79). -/
abbrev Mv := BitVec 12

/-- An ADC channel number, `CH_W` = 4 bits (R8, R78). -/
abbrev Chan := BitVec 4

/-- A tick count, `TIMER_W` = 21 bits (R8, R28). -/
abbrev Ticks := BitVec 21

/-- The mode operand of REQUEST, 8 bits so that a value outside the enumeration exists (R72, R77). -/
abbrev Marg := BitVec 8

/-- The two kinds of word (R70). They never mix: the host's port carries command words only, and
micro-operation words stay inside the block. -/
inductive AnyWord where
  /-- a 32-bit command word -/
  | cmd (w : CmdWord)
  /-- a 4-bit micro-operation word -/
  | uop (u : UopWord)
  deriving DecidableEq, Repr

end Sys2Proof
end

