-- ==== Sys2Proof/Config.lean ====
section
/-! DEFINITION. The implementation parameters of R8 of 00_scope.md and the values the spec leaves
free. The parameters are "constants fixed when the instance is built" (R35 of 10_state.md); a machine
state carries its instance's `Config`, and no step writes it (log 6). -/

namespace Sys2Proof

/-- `DISC_RULE`: what "Both-zero" means in the decoder (R175 of 43_decoder.md, decision D12). -/
inductive DiscRule where
  /-- both voltages in the low band (the default) -/
  | band
  /-- both voltages equal to 0 -/
  | exact
  deriving DecidableEq, Repr

/-- `DECODE_ROW4`: the decoder's result for the band pair (high, mid) (R174 of 43_decoder.md,
conflict C1). -/
inductive Row4 where
  /-- QC-9V, the resolution of conflict C1 (the default) -/
  | qc9v
  /-- QC-12V, the row as the source printed it -/
  | qc12v
  deriving DecidableEq, Repr

/-- `MV_W`, the width of a voltage operand (R8). A constant, not a field: R32, R53, R74 and R79 lay the
registers, the port and the word out at this width in every instance (log 6). `Mv` is the type. -/
def Config.mvW : Nat := 12

/-- `TIMER_W`, the width of `timer` (R8; fixed by R28 in every instance, log 6). `Ticks` is the type. -/
def Config.timerW : Nat := 21

/-- `CH_W`, the width of an ADC channel number (R8; fixed by R53 and R73 in every instance, log 6). `Chan`
is the type. -/
def Config.chW : Nat := 4

/-- The parameters of one instance (R8 of 00_scope.md). Delays are in ticks; band edges are in
millivolts and are Nat so that an edge above 4095 can be written. `N_PORTS` belongs to a system, not to
an instance (`System.nPorts`). -/
structure Config where
  /-- `TICK`, the period of one step, in nanoseconds (log 6: the unit is the model's) -/
  tickNs : Nat
  /-- `NOM(0V)` -/
  nom0 : Mv
  /-- `NOM(600mV)` -/
  nom600 : Mv
  /-- `NOM(2700mV)` -/
  nom2700 : Mv
  /-- `NOM(3300mV)` -/
  nom3300 : Mv
  /-- which four pins and which ADC channels the instance is wired to: `PIN_DP_H`, `PIN_DP_L`, `PIN_DM_H`
  and `PIN_DM_L` together, which are OPEN, as one number. Pins are still named by line and half; the
  number only tells the free values of differently wired instances apart (R247; log 15, the model's
  choice) -/
  wiring : Nat
  /-- `T_SETTLE` -/
  tSettle : Ticks
  /-- `T_GLITCH` -/
  tGlitch : Ticks
  /-- `T_ADC_SETTLE` -/
  tAdcSettle : Ticks
  /-- `V_LOW_LO` -/
  lowLo : Nat
  /-- `V_LOW_HI` -/
  lowHi : Nat
  /-- `V_MID_LO` -/
  midLo : Nat
  /-- `V_MID_HI` -/
  midHi : Nat
  /-- `V_HIGH_LO` -/
  highLo : Nat
  /-- `V_HIGH_HI` -/
  highHi : Nat
  /-- `DISC_RULE` -/
  discRule : DiscRule
  /-- `DECODE_ROW4` -/
  decodeRow4 : Row4
  deriving DecidableEq, Repr

/-- The values in the last column of R8: 1 µs; nominal 0, 600, 2700 and 3300 mV; 10, 1 500 000 and 10
ticks; 0, 200, 200, 1000, 2900 and 3600 mV; BAND; QC-9V. The pins are OPEN; wiring 0 is the model's
choice (log 15). -/
def Config.default : Config where
  tickNs := 1000
  nom0 := 0
  nom600 := 600
  nom2700 := 2700
  nom3300 := 3300
  wiring := 0
  tSettle := 10
  tGlitch := 1500000
  tAdcSettle := 10
  lowLo := 0
  lowHi := 200
  midLo := 200
  midHi := 1000
  highLo := 2900
  highHi := 3600
  discRule := .band
  decodeRow4 := .qc9v

/-- FREE VALUE (logs 1, 2, 15): the external levels of the four pins of wiring `p` in tick `k` when the
state lists no input for it. Bit 0 is (DP, H), bit 1 (DP, L), bit 2 (DM, H), bit 3 (DM, L). The spec: "a
free input of the step" (R12 of 00_scope.md). -/
opaque Config.freePins (p k : Nat) : BitVec 4

/-- FREE VALUE (logs 1, 2, 15): the reading of an ADC channel of wiring `p` in tick `k` when the state
lists no input for it (R12 of 00_scope.md: "it is a free input of the step"). -/
opaque Config.freeAdc (p k : Nat) : Chan → Mv

/-- FREE VALUE (logs 3, 15): `est_mv` of the instance of wiring `p` after a reset taken in tick `k`; "its
reset value is unspecified" (R25 of 10_state.md). -/
opaque Config.freeEstMv (p k : Nat) : BitVec 16

end Sys2Proof
end

