-- ==== Sys2Proof/Syntax.lean ====
section
/-! DEFINITION. The instructions of QCNEG as syntax: five commands and four micro-operations, one
constructor per row of spec/opcode_table.json (R82 of 30_encoding.md). -/

namespace Sys2Proof

/-- One of the two data lines: DP is D+, DM is D- (R26 of 10_state.md). -/
inductive Line where
  | dp
  | dm
  deriving DecidableEq, Repr

/-- One of the two pins of a line: the high-pin H or the low-pin L (R100 of 40_signal_line.md). -/
inductive Half where
  | h
  | l
  deriving DecidableEq, Repr

/-- The four electrical levels a line can be driven to (R102 of 40_signal_line.md). -/
inductive Level where
  | v0
  | mv600
  | mv2700
  | mv3300
  deriving DecidableEq, Repr

/-- The instructions. Every operand has the width its field has in the word, so every term can be
encoded (R71 to R75 of 30_encoding.md). -/
inductive Instr where
  /-- BEGIN: run the handshake (R120 of 41_handshake_begin.md). -/
  | begin
  /-- REQUEST `marg`: apply a mode (R150 of 42_mode_request.md). -/
  | request (marg : Marg)
  /-- ISQC: answer the QC-capable flag (R200 of 44_status_query.md). -/
  | isqc
  /-- GETMODE `ch_dp`, `ch_dm`: read two ADC channels and classify them (R180 of 43_decoder.md). -/
  | getmode (chDp chDm : Chan)
  /-- MFV `dp_mv`, `dm_mv`: classify two voltages (R170 of 43_decoder.md). -/
  | mfv (dpMv dmMv : Mv)
  /-- SL.SET `x`, `level`: drive a line at a level (R103 of 40_signal_line.md). -/
  | slSet (x : Line) (level : Level)
  /-- SL.LISTEN `x`: release both pins of a line (R104 of 40_signal_line.md). -/
  | slListen (x : Line)
  /-- SL.RDH `x`: read the high-pin of a line (R105 of 40_signal_line.md). -/
  | slRdh (x : Line)
  /-- SL.RDL `x`: read the low-pin of a line (R106 of 40_signal_line.md). -/
  | slRdl (x : Line)
  deriving DecidableEq, Repr

end Sys2Proof
end

