-- ==== Sys2Proof/WellFormed.lean ====
section
/-! DEFINITION. Well-formed words, instructions and parameters. A word is well formed when it matches
a row of the opcode map of R82 of 30_encoding.md, written here as the map has it (match and mask) and
independently of the decoder. -/

namespace Sys2Proof

/-- Which kind of word a row of the opcode map spells (R70). -/
inductive WordKind where
  | command
  | microOp
  deriving DecidableEq, Repr

/-- One row of the opcode map: "a word `w` spells the row when `(w and mask) = match`" (R82). -/
structure OpRow where
  mnemonic : String
  kind : WordKind
  mask : BitVec 32
  pattern : BitVec 32
  deriving DecidableEq, Repr

/-- The opcode map of R82. A micro-operation row's numbers are the map's 4-bit numbers. -/
def opcodeMap : List OpRow := [
  ⟨"BEGIN", .command, 0xFFFFFFFF, 0x10000000⟩,
  ⟨"REQUEST", .command, 0xFFFFFF00, 0x20000000⟩,
  ⟨"ISQC", .command, 0xFFFFFFFF, 0x30000000⟩,
  ⟨"GETMODE", .command, 0xFFFFFF00, 0x40000000⟩,
  ⟨"MFV", .command, 0xFF000000, 0x50000000⟩,
  ⟨"SL.SET", .microOp, 0b0100, 0b0000⟩,
  ⟨"SL.LISTEN", .microOp, 0b0111, 0b0100⟩,
  ⟨"SL.RDH", .microOp, 0b0111, 0b0101⟩,
  ⟨"SL.RDL", .microOp, 0b0111, 0b0110⟩]

/-- The kind of a word. -/
def AnyWord.kind : AnyWord → WordKind
  | .cmd _ => .command
  | .uop _ => .microOp

/-- A word's bits, zero-extended to 32. -/
def AnyWord.bits : AnyWord → BitVec 32
  | .cmd w => w
  | .uop u => u.zeroExtend 32

/-- The word spells the row (R82). -/
def OpRow.spelledBy (r : OpRow) (w : AnyWord) : Bool :=
  r.kind == w.kind && (w.bits &&& r.mask) == r.pattern

/-- A word is well formed when some row of the opcode map is spelled by it. A command word that is not
is ILLEGAL (R84); a micro-operation word that is not is reserved (R83). -/
def AnyWord.wellFormed (w : AnyWord) : Bool :=
  opcodeMap.any (·.spelledBy w)

/-- The mnemonic of an instruction, as spec/opcode_table.json spells it. -/
def Instr.mnemonic : Instr → String
  | .begin => "BEGIN"
  | .request _ => "REQUEST"
  | .isqc => "ISQC"
  | .getmode _ _ => "GETMODE"
  | .mfv _ _ => "MFV"
  | .slSet _ _ => "SL.SET"
  | .slListen _ => "SL.LISTEN"
  | .slRdh _ => "SL.RDH"
  | .slRdl _ => "SL.RDL"

/-- Parameters are well formed when the three bands are laid out in order without overlap, as R172 of
43_decoder.md has them: LOW, then MID, then HIGH. -/
def Config.wellFormed (c : Config) : Bool :=
  decide (c.lowLo ≤ c.lowHi ∧ c.lowHi ≤ c.midLo ∧ c.midLo ≤ c.midHi ∧ c.midHi ≤ c.highLo ∧ c.highLo ≤ c.highHi)

/-- An instruction is well formed when each operand fits its field and the line or level it names
exists. The operand types already say so: `marg` 8 bits (R77), channels 4 bits (R78), voltages 12
bits (R79), two lines and four levels (R75, R80). Every term therefore passes. -/
def Instr.wellFormed : Instr → Bool
  | .begin | .isqc => true
  | .request marg => decide (marg.toNat < 2 ^ 8)
  | .getmode chDp chDm => decide (chDp.toNat < 2 ^ Config.chW ∧ chDm.toNat < 2 ^ Config.chW)
  | .mfv dpMv dmMv => decide (dpMv.toNat < 2 ^ Config.mvW ∧ dmMv.toNat < 2 ^ Config.mvW)
  | .slSet _ _ | .slListen _ | .slRdh _ | .slRdl _ => true

end Sys2Proof
end

