-- ==== Sys2Proof/Decode.lean ====
section
/-! DEFINITION. Decoding and encoding (30_encoding.md). Both decoders are total; a word that spells no
instruction is rejected by name. -/

namespace Sys2Proof

/-- Why a word spells no instruction. -/
inductive DecodeError where
  /-- a 32-bit word that `DecodeCmd` sends to ILLEGAL (R81, R84 of 30_encoding.md) -/
  | illegalCommand
  /-- a 4-bit word with `uk` = 0b111 (R83 of 30_encoding.md) -/
  | reservedMicroOp
  deriving DecidableEq, Repr

/-- The index of a line: DP = 0, DM = 1 (R26 of 10_state.md, R75 of 30_encoding.md). -/
def Line.index : Line → BitVec 1
  | .dp => 0
  | .dm => 1

/-- The line with an index. -/
def Line.ofIndex (b : BitVec 1) : Line :=
  if b = 0 then .dp else .dm

/-- The code `{l, h}` of a level (R80 of 30_encoding.md, R102 of 40_signal_line.md). -/
def Level.code : Level → BitVec 2
  | .v0 => 0b00
  | .mv600 => 0b01
  | .mv2700 => 0b10
  | .mv3300 => 0b11

/-- The level with a code. -/
def Level.ofCode (c : BitVec 2) : Level :=
  if c = 0b00 then .v0
  else if c = 0b01 then .mv600
  else if c = 0b10 then .mv2700
  else .mv3300

/-- `DecodeCmd` (R81 of 30_encoding.md). `w.extractLsb' lo n` is the slice of `n` bits from bit `lo`
up. -/
def decodeCmd (w : CmdWord) : Except DecodeError Instr :=
  if w.extractLsb' 28 4 = 1 ∧ w.extractLsb' 0 28 = 0 then .ok .begin
  else if w.extractLsb' 28 4 = 2 ∧ w.extractLsb' 8 20 = 0 then .ok (.request (w.extractLsb' 0 8))
  else if w.extractLsb' 28 4 = 3 ∧ w.extractLsb' 0 28 = 0 then .ok .isqc
  else if w.extractLsb' 28 4 = 4 ∧ w.extractLsb' 8 20 = 0 then
    .ok (.getmode (w.extractLsb' 4 4) (w.extractLsb' 0 4))
  else if w.extractLsb' 28 4 = 5 ∧ w.extractLsb' 24 4 = 0 then
    .ok (.mfv (w.extractLsb' 12 12) (w.extractLsb' 0 12))
  else .error .illegalCommand

/-- `DecodeUop` (R83 of 30_encoding.md). -/
def decodeUop (u : UopWord) : Except DecodeError Instr :=
  let ln := Line.ofIndex (u.extractLsb' 3 1)
  if u.extractLsb' 2 1 = 0 then .ok (.slSet ln (Level.ofCode (u.extractLsb' 0 2)))
  else if u.extractLsb' 0 3 = 0b100 then .ok (.slListen ln)
  else if u.extractLsb' 0 3 = 0b101 then .ok (.slRdh ln)
  else if u.extractLsb' 0 3 = 0b110 then .ok (.slRdl ln)
  else .error .reservedMicroOp

/-- The decoder on a word of either kind. -/
def decode : AnyWord → Except DecodeError Instr
  | .cmd w => decodeCmd w
  | .uop u => decodeUop u

/-- The word of an instruction, from the formats N, M, A, V and U (R71 to R75 of 30_encoding.md). -/
def encode : Instr → AnyWord
  | .begin => .cmd (1#4 ++ 0#28)
  | .request marg => .cmd (2#4 ++ 0#20 ++ marg)
  | .isqc => .cmd (3#4 ++ 0#28)
  | .getmode chDp chDm => .cmd (4#4 ++ 0#20 ++ chDp ++ chDm)
  | .mfv dpMv dmMv => .cmd (5#4 ++ 0#4 ++ dpMv ++ dmMv)
  | .slSet x level => .uop (x.index ++ 0#1 ++ level.code)
  | .slListen x => .uop (x.index ++ 0b100#3)
  | .slRdh x => .uop (x.index ++ 0b101#3)
  | .slRdl x => .uop (x.index ++ 0b110#3)

/-- The word that the opcode table's numbering names: a row of up to 8 bits (a micro-operation's 4
bits in whole bytes) is a micro-operation word, any longer row a command word; bits above the word's
own width do not exist and are dropped (log 10). -/
def tableWord (nbits w : Nat) : AnyWord :=
  if nbits ≤ 8 then .uop (BitVec.ofNat 4 w) else .cmd (BitVec.ofNat 32 w)

/-- What the decoder reads from a word numbered as spec/opcode_table.json numbers it. -/
def decodeTableWord (nbits w : Nat) : Option Instr :=
  match decode (tableWord nbits w) with
  | .ok i => some i
  | .error _ => none

end Sys2Proof
end

