-- ==== Sys2Proof/Machine/State.lean ====
section
/-! DEFINITION. The state of one QCNEG instance (R20 of 10_state.md), the inputs of a tick (R208 of
45_sequencer.md), the reasons a step can stop, and the state after reset (R39 of 10_state.md). Codes
that no rule ever writes have no name here (V4 of 93_implementation_defined.md; log 7). -/

namespace Sys2Proof.Machine

/-- The handshake state `hs` (R21 of 10_state.md), in code order 0 to 5. -/
inductive Hs where
  | idle
  | probeListen
  | probeGlitch
  | probeRecheck
  | established
  | fallback
  deriving DecidableEq, Repr

/-- The Charging Mode (R22 of 10_state.md), in code order 0 to 6. -/
inductive Mode where
  | disconnected
  | generic5v
  | qc5v
  | qc9v
  | qc12v
  | qc20v
  | qcVariable
  deriving DecidableEq, Repr

/-- The sequencer state `seq` (R24 of 10_state.md), in code order 0 to 18. -/
inductive Seq where
  | ready
  | bLsnDm
  | bHiDp
  | bWait1
  | bSmp1
  | bGliDp
  | bWait2
  | bHi2Dp
  | bWait3
  | bSmp2
  | qLsnDp
  | qLsnDm
  | qWait
  | qSetDp
  | qSetDm
  | gRdDp
  | gRdDm
  | gWait
  | gCls
  deriving DecidableEq, Repr

/-- A condition code, used in `resp_status` and in `diag` (R231 of 60_exceptions.md), in code order 0
to 5. -/
inductive Cond where
  | ok
  | cap
  | logic
  | invMode
  | ambig
  | illCmd
  deriving DecidableEq, Repr

/-- The driver record of one line (R26 of 10_state.md): `oe` is 1 when both pins are outputs, `l` and
`h` are the values driven on the low-pin and the high-pin. -/
structure LineReg where
  oe : Bool
  l : Bool
  h : Bool
  deriving DecidableEq, Repr

/-- The inputs of one tick (R208 of 45_sequencer.md). `adc` holds what each of the sixteen channels
reads in this tick (R53 of 20_memory.md); the block sees the one it names (log 12). -/
structure TickInput where
  rst : Bool
  cmdValid : Bool
  cmd : CmdWord
  extDpH : Bool
  extDpL : Bool
  extDmH : Bool
  extDmL : Bool
  adc : Vector Mv 16
  deriving DecidableEq, Repr

/-- The state of one instance. The fields from `hs` to `diag` are the record `S` of R20 of
10_state.md; the rest is the model's own: the instance's parameters (log 6), the inputs still to come
(log 1), the tick index of the free values (log 2), the bit a pin read returned (log 4) and a
micro-operation word given from outside the sequencer (log 5). -/
structure State where
  /-- `hs`, the handshake state (R21) -/
  hs : Hs
  /-- `mode`, the current Charging Mode (R22) -/
  mode : Mode
  /-- `qc`, the QC-capable flag (R23) -/
  qc : Bool
  /-- `seq`, the sequencer state (R24) -/
  seq : Seq
  /-- `est_mv`, advisory, under no law (R25) -/
  estMv : BitVec 16
  /-- `line[DP]` (R26) -/
  lineDp : LineReg
  /-- `line[DM]` (R26) -/
  lineDm : LineReg
  /-- `timer` (R28) -/
  timer : Ticks
  /-- `ir`, the last command word accepted (R29) -/
  ir : CmdWord
  /-- `req_mode`, the mode a running REQUEST applies (R30) -/
  reqMode : Mode
  /-- `lnk`, the link bit (R31) -/
  lnk : Bool
  /-- `adc_dp` (R32) -/
  adcDp : Mv
  /-- `adc_dm` (R32) -/
  adcDm : Mv
  /-- `resp_valid` (R33) -/
  respValid : Bool
  /-- `resp_status` (R33) -/
  respStatus : Cond
  /-- `resp_data` (R33) -/
  respData : BitVec 3
  /-- `diag` (R34) -/
  diag : Cond
  /-- the parameters of the instance (R8 of 00_scope.md, R35); written by no step (log 6) -/
  cfg : Config
  /-- the inputs of the coming ticks, the next one first (log 1) -/
  inputs : List TickInput
  /-- how many ticks have been taken; an index for the free values only (log 2) -/
  tick : Nat
  /-- the bit the last SL.RDH or SL.RDL returned: `s` of R125 and R132 of 41_handshake_begin.md
  (log 4) -/
  readBit : Bool
  /-- a micro-operation word given to the Signal Lines from outside the sequencer for the next tick
  (log 5) -/
  bench : Option UopWord
  deriving DecidableEq, Repr

/-- The reasons a step can stop with a fault: none. "nothing in the block traps, halts or saves a
return address" (R13 of 00_scope.md); an error is a rejected command, which is a next state (R230,
R241 of 60_exceptions.md). -/
inductive Fault where
  deriving DecidableEq, Repr

/-- The reasons the model gives a state no step. -/
inductive Refusal where
  /-- An instruction that has no meaning yet. Raised only by an arm of `exec`; no arm does. Safe. -/
  | notModelled (mnemonic : String)
  /-- Raised by `issue` for a micro-operation word with `uk` = 0b111: "a model gives it no meaning and
  refuses it" (R83 of 30_encoding.md). The sequencer never issues one; only `bench` can hold one.
  Safe. -/
  | reservedMicroOp
  /-- Raised by `sequencerStep` in Q_SET_DP or Q_SET_DM when `req_mode` has no row in the request table
  of R151 of 42_mode_request.md. Unreachable: "Its value is always in {2, 3, 4, 5, 6} whenever `seq` is
  one of the Q_ states" (R30 of 10_state.md). Safe (log 8). -/
  | noRequestRow
  deriving DecidableEq, Repr

/-- The machine right after reset (R39 of 10_state.md, R260 of 70_reset_and_hazards.md). `est_mv` has
no reset value in the spec; 0 is the model's choice (log 3). The five fields of the model's own hold
the default parameters (log 6), no listed input (log 1), tick 0 (log 2), read bit 0 (log 4) and no
bench word (log 5). -/
def State.reset : State where
  hs := .idle
  mode := .disconnected
  qc := false
  seq := .ready
  estMv := 0
  lineDp := ⟨false, false, false⟩
  lineDm := ⟨false, false, false⟩
  timer := 0
  ir := 0
  reqMode := .disconnected
  lnk := false
  adcDp := 0
  adcDm := 0
  respValid := false
  respStatus := .ok
  respData := 0
  diag := .ok
  cfg := Config.default
  inputs := []
  tick := 0
  readBit := false
  bench := none

end Sys2Proof.Machine
end

