-- ==== Sys2Proof/Machine/Operands.lean ====
section
/-! DEFINITION. The code tables of the registers, the level truth table (R102 of 40_signal_line.md), the
request table (R151 of 42_mode_request.md) and the decoder from voltages to a mode (R171, R174 and R175
of 43_decoder.md). -/

namespace Sys2Proof

/-- The value of the high-pin at a level (R102 of 40_signal_line.md). -/
def Level.highPin : Level → Bool
  | .v0 => false
  | .mv600 => true
  | .mv2700 => false
  | .mv3300 => true

/-- The value of the low-pin at a level (R102 of 40_signal_line.md). -/
def Level.lowPin : Level → Bool
  | .v0 => false
  | .mv600 => false
  | .mv2700 => true
  | .mv3300 => true

/-- `NOM(level)` in millivolts: a parameter with the defaults 0, 600, 2700 and 3300 (R8 of 00_scope.md, R102
of 40_signal_line.md). -/
def Level.nominal (c : Config) : Level → Mv
  | .v0 => c.nom0
  | .mv600 => c.nom600
  | .mv2700 => c.nom2700
  | .mv3300 => c.nom3300

/-- The time `n` ticks take, in nanoseconds (R14 of 00_scope.md: one step is one tick of period `TICK`). -/
def Config.durationNs (c : Config) (n : Nat) : Nat :=
  n * c.tickNs

/-- A duration in microseconds as ticks (R14 of 00_scope.md, `busy_wait_microseconds` of R210 of
45_sequencer.md); a part of a tick is dropped. -/
def Config.ticksOfMicros (c : Config) (n : Nat) : Nat :=
  n * 1000 / c.tickNs

/-- A duration in milliseconds as ticks (R14; `busy_wait_milliseconds` of R210). -/
def Config.ticksOfMillis (c : Config) (n : Nat) : Nat :=
  c.ticksOfMicros (n * 1000)

/-- The line record that drives a level: both pins outputs, at the level's values (R103 of
40_signal_line.md). -/
def Level.driven (level : Level) : Machine.LineReg where
  oe := true
  l := level.lowPin
  h := level.highPin

end Sys2Proof

namespace Sys2Proof.Machine

/-- The code of a Charging Mode (R22 of 10_state.md). -/
def Mode.code : Mode → BitVec 3
  | .disconnected => 0
  | .generic5v => 1
  | .qc5v => 2
  | .qc9v => 3
  | .qc12v => 4
  | .qc20v => 5
  | .qcVariable => 6

/-- The code of a handshake state (R21 of 10_state.md). -/
def Hs.code : Hs → BitVec 3
  | .idle => 0
  | .probeListen => 1
  | .probeGlitch => 2
  | .probeRecheck => 3
  | .established => 4
  | .fallback => 5

/-- The code of a sequencer state (R24 of 10_state.md). -/
def Seq.code : Seq → BitVec 5
  | .ready => 0
  | .bLsnDm => 1
  | .bHiDp => 2
  | .bWait1 => 3
  | .bSmp1 => 4
  | .bGliDp => 5
  | .bWait2 => 6
  | .bHi2Dp => 7
  | .bWait3 => 8
  | .bSmp2 => 9
  | .qLsnDp => 10
  | .qLsnDm => 11
  | .qWait => 12
  | .qSetDp => 13
  | .qSetDm => 14
  | .gRdDp => 15
  | .gRdDm => 16
  | .gWait => 17
  | .gCls => 18

/-- The code of a condition (R231 of 60_exceptions.md). -/
def Cond.code : Cond → BitVec 3
  | .ok => 0
  | .cap => 1
  | .logic => 2
  | .invMode => 3
  | .ambig => 4
  | .illCmd => 5

/-- The line record after both pins are released; `l` and `h` keep their values (R104 of
40_signal_line.md, decision D29). -/
def LineReg.released (r : LineReg) : LineReg :=
  { r with oe := false }

/-- The symbolic state of a line: none is Listen, otherwise the level with code `{l, h}` (R27 of
10_state.md). -/
def LineReg.symbolic (r : LineReg) : Option Level :=
  match r.oe, r.l, r.h with
  | false, _, _ => none
  | true, false, false => some .v0
  | true, false, true => some .mv600
  | true, true, false => some .mv2700
  | true, true, true => some .mv3300

/-- The request table `Tbl(m)` = (level for D+, level for D-); no row for Disconnected or Generic-5V
(R151 of 42_mode_request.md). -/
def requestTable : Mode → Option (Level × Level)
  | .disconnected => none
  | .generic5v => none
  | .qc5v => some (.mv600, .v0)
  | .qc9v => some (.mv3300, .mv600)
  | .qc12v => some (.mv600, .mv600)
  | .qc20v => some (.mv3300, .mv3300)
  | .qcVariable => some (.mv600, .mv3300)

/-- The mode has a row in the request table: it is one of the codes 2 to 6. -/
def Mode.requestable (m : Mode) : Bool :=
  (requestTable m).isSome

/-- The requestable mode a REQUEST operand names, if it names one: "`marg` is in 2 to 6" (R155 of
42_mode_request.md). The test is on all eight bits. -/
def requestedMode (marg : Marg) : Option Mode :=
  if marg = 2 then some .qc5v
  else if marg = 3 then some .qc9v
  else if marg = 4 then some .qc12v
  else if marg = 5 then some .qc20v
  else if marg = 6 then some .qcVariable
  else none

/-- A band of voltages, or none of them (R171 of 43_decoder.md). -/
inductive Band where
  | low
  | mid
  | high
  | none
  deriving DecidableEq, Repr

/-- `Band(v)`: two-sided, half-open tests, lower edge inside, upper edge outside (R171 of
43_decoder.md, conflict C2). -/
def bandOf (c : Config) (v : Mv) : Band :=
  if c.lowLo ≤ v.toNat ∧ v.toNat < c.lowHi then .low
  else if c.midLo ≤ v.toNat ∧ v.toNat < c.midHi then .mid
  else if c.highLo ≤ v.toNat ∧ v.toNat < c.highHi then .high
  else .none

/-- `BothZero(dp, dm)` under the parameter `DISC_RULE` (R175 of 43_decoder.md). -/
def bothZero (c : Config) (dp dm : Mv) : Bool :=
  match c.discRule with
  | .band => bandOf c dp == .low && bandOf c dm == .low
  | .exact => dp == 0 && dm == 0

/-- The mode of the fourth decode row, the parameter `DECODE_ROW4` (R174 of 43_decoder.md, conflict
C1). -/
def row4Mode (r : Row4) : Mode :=
  match r with
  | .qc9v => .qc9v
  | .qc12v => .qc12v

/-- `Decode(dp, dm)`, first match wins (R174 of 43_decoder.md). -/
def decodeVoltages (c : Config) (dp dm : Mv) : Mode :=
  match bandOf c dp, bandOf c dm with
  | .mid, .low => .qc5v
  | .mid, .mid => .qc12v
  | .mid, .high => .qcVariable
  | .high, .mid => row4Mode c.decodeRow4
  | .high, .high => .qc20v
  | _, _ => if bothZero c dp dm then .disconnected else .generic5v

end Sys2Proof.Machine
end

