-- ==== Sys2Proof/Machine/Flags.lean ====
section
/-! DEFINITION. The flag and condition computations: how `qc`, the one condition flag (R23 of
10_state.md), is answered and tested, the checks of REQUEST (R152 to R155 of 42_mode_request.md), and the
condition a classification notes (R178 of 43_decoder.md). -/

namespace Sys2Proof.Machine

/-- `{0b00, qc}`, the data ISQC answers (R200 of 44_status_query.md). -/
def qcData (qc : Bool) : BitVec 3 :=
  if qc then 1 else 0

/-- The three checks of REQUEST, in order, the first that fails wins: CAP (R152), LOGIC (R153), INVMODE
(R154); otherwise the mode to apply (R155 of 42_mode_request.md; R240 of 60_exceptions.md). -/
def requestCheck (qc : Bool) (marg : Marg) : Except Cond Mode :=
  if qc = false then .error .cap
  else if marg = 0 then .error .logic
  else
    match requestedMode marg with
    | some m => .ok m
    | none => .error .invMode

/-- `diag` after a classification: AMBIG when the result is Generic-5V, else what it was (R170, R178,
R185 of 43_decoder.md). -/
def classDiag (r : Mode) (before : Cond) : Cond :=
  if r = .generic5v then .ambig else before

end Sys2Proof.Machine
end

