-- ==== Sys2Proof/Machine/Ops.lean ====
section
/-! DEFINITION. The shared operations: the inputs of a tick, the pin and ADC primitives (R12 of
00_scope.md), the outcome primitives (R13 of 00_scope.md), the wait (R210 of 45_sequencer.md), reset
(R260 of 70_reset_and_hazards.md) and the frame of a tick (R205, R207 of 45_sequencer.md). The block has
no memory, so there is no memory operation (R50 of 20_memory.md). -/

namespace Sys2Proof.Machine

/-- What a step answers. -/
abbrev Result := Host.Outcome State Fault Refusal

/-- Go on from a next state; a stop stays. -/
def andThen (o : Result) (k : State → Result) : Result :=
  match o with
  | .next s => k s
  | .fault f => .fault f
  | .refused r => .refused r

/-- A tick in which the host offers nothing and asserts no reset, and the pins and the ADC have free
values: the inputs of tick `k` of the instance of wiring `p` when the state lists none (log 1). The model's
choice, not the spec's (log 15): two instances read the same free values in such a tick exactly when they have
the same wiring and the same tick index; the spec says only that each reads a free input. -/
def idleInput (p k : Nat) : TickInput where
  rst := false
  cmdValid := false
  cmd := 0
  extDpH := (Config.freePins p k).getLsbD 0
  extDpL := (Config.freePins p k).getLsbD 1
  extDmH := (Config.freePins p k).getLsbD 2
  extDmL := (Config.freePins p k).getLsbD 3
  adc := Vector.ofFn fun ch => Config.freeAdc p k (BitVec.ofFin ch)

/-- The inputs of the tick `k` ticks from now. -/
def State.inputAt (s : State) (k : Nat) : TickInput :=
  s.inputs.getD k (idleInput s.cfg.wiring (s.tick + k))

/-- The inputs of this tick (R208 of 45_sequencer.md). -/
def State.input (s : State) : TickInput :=
  s.inputAt 0

/-- The record of a line. -/
def State.line (s : State) : Line → LineReg
  | .dp => s.lineDp
  | .dm => s.lineDm

/-- Write the record of a line, all three bits together (R56 of 20_memory.md). -/
def State.setLine (s : State) (x : Line) (r : LineReg) : State :=
  match x with
  | .dp => { s with lineDp := r }
  | .dm => { s with lineDm := r }

/-- The external level of a pin in this tick (R208 of 45_sequencer.md). -/
def TickInput.ext (i : TickInput) : Line → Half → Bool
  | .dp, .h => i.extDpH
  | .dp, .l => i.extDpL
  | .dm, .h => i.extDmH
  | .dm, .l => i.extDmL

/-- The value driven on a pin. -/
def LineReg.half (r : LineReg) : Half → Bool
  | .h => r.h
  | .l => r.l

/-- `PinIn(x, half)`: the driven value when the line is driven, else the external level (R12 of
00_scope.md). -/
def pinIn (s : State) (x : Line) (half : Half) : Bool :=
  if (s.line x).oe then (s.line x).half half else s.input.ext x half

/-- `AdcRead(ch)`: the reading of channel `ch` in this tick (R12 of 00_scope.md, R53 of
20_memory.md). -/
def adcRead (s : State) (ch : Chan) : Mv :=
  s.input.adc.get ch.toFin

/-- `SL.SET(x, level)` (R103 of 40_signal_line.md). -/
def setLevel (x : Line) (level : Level) (s : State) : State :=
  s.setLine x level.driven

/-- `SL.LISTEN(x)` (R104 of 40_signal_line.md). -/
def setListen (x : Line) (s : State) : State :=
  s.setLine x (s.line x).released

/-- Deliver the bit a pin read returns (R105, R106 of 40_signal_line.md); no register of the block is
written (log 4). -/
def deliverRead (b : Bool) (s : State) : State :=
  { s with readBit := b }

/-- Store an accepted command word in the command register (R206 of 45_sequencer.md). -/
def latchCommand (w : CmdWord) (s : State) : State :=
  { s with ir := w }

/-- The command word of an instruction, as `ir` holds it; a micro-operation has none. -/
def commandWord (i : Instr) : CmdWord :=
  match encode i with
  | .cmd w => w
  | .uop _ => 0

/-- Move the sequencer (R24 of 10_state.md). -/
def goto (q : Seq) (s : State) : State :=
  { s with seq := q }

/-- Load the down-counter (R28 of 10_state.md). -/
def loadTimer (n : Ticks) (s : State) : State :=
  { s with timer := n }

/-- `Complete(st, d)` (R13 of 00_scope.md). -/
def complete (st : Cond) (d : BitVec 3) (s : State) : State :=
  { s with respValid := true, respStatus := st, respData := d, seq := .ready }

/-- `raise E` (R13 of 00_scope.md): the whole of taking an exception on this block (R241 of
60_exceptions.md). Nothing is saved and there is no handler; the return is the acceptance of the next
command in the next tick, with nothing to restore (R242). -/
def raise (e : Cond) (s : State) : State :=
  { complete e s.mode.code s with diag := e }

/-- Complete a classification with result `r`, and note AMBIG when it is Generic-5V (R170, R178, R185 of
43_decoder.md). -/
def completeClass (r : Mode) (s : State) : State :=
  { complete .ok r.code s with diag := classDiag r s.diag }

/-- End a BEGIN in FALLBACK (R126 and R134 of 41_handshake_begin.md). -/
def fallBack (s : State) : State :=
  complete .ok (Mode.code .generic5v) { s with mode := .generic5v, qc := false, hs := .fallback }

/-- One tick of a wait state with successor `succ` (R210 of 45_sequencer.md). -/
def waitTick (succ : Seq) (s : State) : State :=
  if 1 < s.timer.toNat then { s with timer := s.timer - 1 } else { s with timer := 0, seq := succ }

/-- What every step does first: `resp_valid <- 0` and `diag <- 0` (R205, R207 of 45_sequencer.md). -/
def tickStart (s : State) : State :=
  { s with respValid := false, diag := .ok }

/-- What ends every tick: its inputs are gone (log 1) and the next tick has the next index (log 2). -/
def tickEnd (s : State) : State :=
  { s with inputs := s.inputs.tail, tick := s.tick + 1 }

/-- A tick with `rst = 1`: the next state is `ResetState` whatever the state was (R260, R261 of
70_reset_and_hazards.md). `est_mv` is unspecified then, a free value (log 3); the parameters stay and
the tick is over. -/
def resetTick (s : State) : State :=
  tickEnd { State.reset with
    estMv := Config.freeEstMv s.cfg.wiring s.tick, cfg := s.cfg, inputs := s.inputs, tick := s.tick }

end Sys2Proof.Machine
end

