-- ==== Sys2Proof/Machine/Command.lean ====
section
/-! DEFINITION. The meanings of the five commands in the tick that accepts them (R206 of
45_sequencer.md). A command that runs on (BEGIN, REQUEST, GETMODE) only starts here; its later
micro-steps are in Machine/Sequencer.lean. Each meaning writes `ir`, as its rule lists (log 11). -/

namespace Sys2Proof.Machine

/-- BEGIN (R120 of 41_handshake_begin.md): accepted whatever `hs` is (R136), `mode` and `qc` are kept
(decision D15). -/
def execBegin (s : State) : Result :=
  .next (goto .bLsnDm (latchCommand (commandWord .begin) s))

/-- REQUEST `marg` (R150 to R155 of 42_mode_request.md): the checks, then a rejection or the start of the
Q_ steps on the host's behalf. -/
def execRequest (marg : Marg) (s : State) : Result :=
  let s := latchCommand (commandWord (.request marg)) s
  match requestCheck s.qc marg with
  | .error e => .next (raise e s)
  | .ok m => .next (goto .qLsnDp { s with reqMode := m, lnk := false })

/-- ISQC (R200 of 44_status_query.md). -/
def execIsqc (s : State) : Result :=
  .next (complete .ok (qcData s.qc) (latchCommand (commandWord .isqc) s))

/-- GETMODE `ch_dp`, `ch_dm` (R180 of 43_decoder.md): `ir` keeps the channel numbers. -/
def execGetmode (chDp chDm : Chan) (s : State) : Result :=
  .next (goto .gRdDp (latchCommand (commandWord (.getmode chDp chDm)) s))

/-- MFV `dp_mv`, `dm_mv` (R170 of 43_decoder.md): the result is returned, not stored. -/
def execMfv (dpMv dmMv : Mv) (s : State) : Result :=
  .next (completeClass (decodeVoltages s.cfg dpMv dmMv) (latchCommand (commandWord (.mfv dpMv dmMv)) s))

end Sys2Proof.Machine
end

