-- ==== Sys2Proof/Machine/SignalLine.lean ====
section
/-! DEFINITION. The meanings of the four micro-operations of a Dual-Level Signal Line
(40_signal_line.md). -/

namespace Sys2Proof.Machine

/-- SL.SET `x`, `level` (R103). -/
def execSlSet (x : Line) (level : Level) (s : State) : Result :=
  .next (setLevel x level s)

/-- SL.LISTEN `x` (R104). -/
def execSlListen (x : Line) (s : State) : Result :=
  .next (setListen x s)

/-- SL.RDH `x` (R105): the bit returned is `PinIn(x, H)`. -/
def execSlRdh (x : Line) (s : State) : Result :=
  .next (deliverRead (pinIn s x .h) s)

/-- SL.RDL `x` (R106): the bit returned is `PinIn(x, L)`. -/
def execSlRdl (x : Line) (s : State) : Result :=
  .next (deliverRead (pinIn s x .l) s)

end Sys2Proof.Machine
end

