-- ==== Sys2Proof/Machine/Dispatch.lean ====
section
/-! DEFINITION. One arm per instruction, each one call of its meaning. -/

namespace Sys2Proof.Machine

/-- What an instruction does to the state in the tick that runs it (the tick's own frame, R205 and R207
of 45_sequencer.md, is `step`'s). -/
def exec (i : Instr) (s : State) : Host.Outcome State Fault Refusal :=
  match i with
  | .begin => Sys2Proof.Machine.execBegin s
  | .request marg => Sys2Proof.Machine.execRequest marg s
  | .isqc => Sys2Proof.Machine.execIsqc s
  | .getmode chDp chDm => Sys2Proof.Machine.execGetmode chDp chDm s
  | .mfv dpMv dmMv => Sys2Proof.Machine.execMfv dpMv dmMv s
  | .slSet x level => Sys2Proof.Machine.execSlSet x level s
  | .slListen x => Sys2Proof.Machine.execSlListen x s
  | .slRdh x => Sys2Proof.Machine.execSlRdh x s
  | .slRdl x => Sys2Proof.Machine.execSlRdl x s

end Sys2Proof.Machine
end

