-- ==== Sys2Proof/Machine/Sequencer.lean ====
section
/-! DEFINITION. The sequencer (45_sequencer.md): which micro-operation word each micro-step issues, what
each micro-step then writes, the acceptance of a command, and one whole tick. A micro-step of a command
issues at most one word; the word goes through the decoder and `exec` like any instruction, and the
micro-step's own register writes follow. All assignments of a step read the values before the step,
except that a sampling step reads the bit its own word returned (R125, R132 of 41_handshake_begin.md). -/

namespace Sys2Proof.Machine

/-- What a sequencer state issues to the line drivers in its tick. -/
inductive Issue where
  /-- no micro-operation -/
  | silent
  /-- a micro-operation word -/
  | word (u : UopWord)
  /-- a level of the request table for a mode that has no row: unreachable (log 8) -/
  | noRow
  deriving DecidableEq, Repr

/-- The word `SL.SET x, level` (R75, R80 of 30_encoding.md). -/
def setWord (x : Line) (level : Level) : UopWord :=
  x.index ++ 0#1 ++ level.code

/-- The micro-operation word of each sequencer state: R122 to R132 of 41_handshake_begin.md, R156 to R160
of 42_mode_request.md. The waits, READY and the G_ states issue none (R124, R129, R131, R158, R182 to
R186). -/
def issued (s : State) : Issue :=
  match s.seq with
  | .bLsnDm => .word 0b1100#4
  | .bHiDp => .word 0b0011#4
  | .bSmp1 => .word 0b1101#4
  | .bGliDp => .word 0b0001#4
  | .bHi2Dp => .word 0b0011#4
  | .bSmp2 => .word 0b1101#4
  | .qLsnDp => .word 0b0100#4
  | .qLsnDm => .word 0b1100#4
  | .qSetDp =>
    match requestTable s.reqMode with
    | some (p, _) => .word (setWord .dp p)
    | none => .noRow
  | .qSetDm =>
    match requestTable s.reqMode with
    | some (_, m) => .word (setWord .dm m)
    | none => .noRow
  | .ready | .bWait1 | .bWait2 | .bWait3 | .qWait | .gRdDp | .gRdDm | .gWait | .gCls => .silent

/-- Run one micro-operation word on the line drivers; a reserved word is refused (R83 of
30_encoding.md). -/
def issue (u : UopWord) (s : State) : Result :=
  match decodeUop u with
  | .ok i => exec i s
  | .error _ => .refused .reservedMicroOp

/-- Accept a command word (R206 of 45_sequencer.md): `ir` takes it whatever it is; an ILLEGAL word is
answered with `raise ILLCMD` (R85 of 30_encoding.md). -/
def accept (w : CmdWord) (s : State) : Result :=
  match decodeCmd w with
  | .ok i => exec i (latchCommand w s)
  | .error _ => .next (raise .illCmd (latchCommand w s))

/-- READY: accept the command offered in this tick, or stay (R206 of 45_sequencer.md). -/
def stepReady (s : State) : Result :=
  if s.input.cmdValid then accept s.input.cmd s else .next s

/-- B_LSN_DM after its SL.LISTEN DM (R122 of 41_handshake_begin.md). -/
def stepBLsnDm (s : State) : State :=
  goto .bHiDp { s with hs := .probeListen }

/-- B_HI_DP after its SL.SET DP, 3300mV (R123). -/
def stepBHiDp (s : State) : State :=
  goto .bWait1 (loadTimer s.cfg.tSettle s)

/-- B_WAIT1 (R124). -/
def stepBWait1 (s : State) : State :=
  waitTick .bSmp1 s

/-- B_SMP1 after its SL.RDH DM (R125): low ends in FALLBACK (R126), high goes on (R127). -/
def stepBSmp1 (s : State) : State :=
  if s.readBit then goto .bGliDp s else fallBack s

/-- B_GLI_DP after its SL.SET DP, 600mV (R128). -/
def stepBGliDp (s : State) : State :=
  goto .bWait2 (loadTimer s.cfg.tGlitch { s with hs := .probeGlitch })

/-- B_WAIT2 (R129). -/
def stepBWait2 (s : State) : State :=
  waitTick .bHi2Dp s

/-- B_HI2_DP after its SL.SET DP, 3300mV (R130). -/
def stepBHi2Dp (s : State) : State :=
  goto .bWait3 (loadTimer s.cfg.tSettle { s with hs := .probeRecheck })

/-- B_WAIT3 (R131). -/
def stepBWait3 (s : State) : State :=
  waitTick .bSmp2 s

/-- B_SMP2 after its SL.RDH DM (R132): high ends in FALLBACK (R134), low sets `qc` and runs the REQUEST
steps for QC-5V with the link bit set, their checks skipped (R133). -/
def stepBSmp2 (s : State) : State :=
  if s.readBit then fallBack s
  else goto .qLsnDp { s with qc := true, reqMode := .qc5v, lnk := true }

/-- Q_LSN_DP after its SL.LISTEN DP (R156 of 42_mode_request.md). -/
def stepQLsnDp (s : State) : State :=
  goto .qLsnDm s

/-- Q_LSN_DM after its SL.LISTEN DM (R157). -/
def stepQLsnDm (s : State) : State :=
  goto .qWait (loadTimer s.cfg.tSettle s)

/-- Q_WAIT (R158). -/
def stepQWait (s : State) : State :=
  waitTick .qSetDp s

/-- Q_SET_DP after its SL.SET DP, `Tbl(req_mode).dp` (R159). -/
def stepQSetDp (s : State) : State :=
  goto .qSetDm s

/-- Q_SET_DM after its SL.SET DM, `Tbl(req_mode).dm` (R160): the mode is stored, the handshake is
ESTABLISHED when the steps ran for BEGIN, and the one response is given. -/
def stepQSetDm (s : State) : State :=
  complete .ok s.reqMode.code
    { s with mode := s.reqMode, hs := if s.lnk then .established else s.hs, lnk := false }

/-- G_RD_DP (R182 of 43_decoder.md). -/
def stepGRdDp (s : State) : State :=
  goto .gRdDm { s with adcDp := adcRead s (s.ir.extractLsb' 4 4) }

/-- G_RD_DM (R183). -/
def stepGRdDm (s : State) : State :=
  goto .gWait (loadTimer s.cfg.tAdcSettle { s with adcDm := adcRead s (s.ir.extractLsb' 0 4) })

/-- G_WAIT (R184). -/
def stepGWait (s : State) : State :=
  waitTick .gCls s

/-- G_CLS (R185). -/
def stepGCls (s : State) : State :=
  completeClass (decodeVoltages s.cfg s.adcDp s.adcDm) s

/-- What the micro-step of a sequencer state writes, after its micro-operation (R205, R206 of
45_sequencer.md). -/
def microStep (q : Seq) (s : State) : Result :=
  match q with
  | .ready => stepReady s
  | .bLsnDm => .next (stepBLsnDm s)
  | .bHiDp => .next (stepBHiDp s)
  | .bWait1 => .next (stepBWait1 s)
  | .bSmp1 => .next (stepBSmp1 s)
  | .bGliDp => .next (stepBGliDp s)
  | .bWait2 => .next (stepBWait2 s)
  | .bHi2Dp => .next (stepBHi2Dp s)
  | .bWait3 => .next (stepBWait3 s)
  | .bSmp2 => .next (stepBSmp2 s)
  | .qLsnDp => .next (stepQLsnDp s)
  | .qLsnDm => .next (stepQLsnDm s)
  | .qWait => .next (stepQWait s)
  | .qSetDp => .next (stepQSetDp s)
  | .qSetDm => .next (stepQSetDm s)
  | .gRdDp => .next (stepGRdDp s)
  | .gRdDm => .next (stepGRdDm s)
  | .gWait => .next (stepGWait s)
  | .gCls => .next (stepGCls s)

/-- The sequencer's part of a tick: issue this state's micro-operation, then write this state's
registers. -/
def sequencerStep (s : State) : Result :=
  match issued s with
  | .silent => microStep s.seq s
  | .word u => andThen (issue u s) (microStep s.seq)
  | .noRow => .refused .noRequestRow

/-- What a tick does between its start and its end: the sequencer's step, or, when a micro-operation
word is given from outside the sequencer, that word alone (log 5). -/
def tickBody (s : State) : Result :=
  match s.bench with
  | some u => issue u { s with bench := none }
  | none => sequencerStep s

/-- One whole tick (R205 of 45_sequencer.md): reset wins over everything (R260 of
70_reset_and_hazards.md). -/
def wholeTick (s : State) : Result :=
  if s.input.rst then .next (resetTick s)
  else andThen (tickBody (tickStart s)) fun t => .next (tickEnd t)

/-- The inputs of this tick with a command word offered and no reset. -/
def TickInput.offering (w : CmdWord) (i : TickInput) : TickInput :=
  { i with rst := false, cmdValid := true, cmd := w }

/-- Put inputs in place of those of this tick. -/
def State.setInput (s : State) (i : TickInput) : State :=
  { s with inputs := i :: s.inputs.tail }

/-- The state whose next tick runs a word: a command word is offered in READY, a micro-operation word is
given to the line drivers (logs 5, 9). -/
def placeWord (w : AnyWord) (s : State) : State :=
  match w with
  | .cmd w => { (s.setInput (s.input.offering w)) with seq := .ready, bench := none }
  | .uop u => { (s.setInput { s.input with rst := false }) with bench := some u }

end Sys2Proof.Machine
end

