-- ==== Sys2Proof/Machine/Step.lean ====
section
/-! DEFINITION. One step of the machine, and how a word of the opcode table comes to be the instruction
the next step runs (log 9). -/

namespace Sys2Proof.Machine

/-- One step is one tick (R205 of 45_sequencer.md, R14 of 00_scope.md). -/
def step (s : State) : Host.Outcome State Fault Refusal :=
  wholeTick s

/-- `s` with the word where the next step finds its instruction. -/
def State.withFetchWord (s : State) (nbits w : Nat) : State :=
  placeWord (tableWord nbits w) s

end Sys2Proof.Machine
end

