-- ==== Sys2Proof/Machine/Outputs.lean ====
section
/-! DEFINITION. What an observer outside the block sees in a state: functions of the state alone (R27 and
R36 of 10_state.md, R181 of 43_decoder.md, R217 of 45_sequencer.md). -/

namespace Sys2Proof.Machine

/-- `pin_oe(x, half) = line[x].oe`: the two pins of a line always have the same direction (R27). -/
def State.pinOe (s : State) (x : Line) (_ : Half) : Bool :=
  (s.line x).oe

/-- `pin_out(x, half)` (R27). -/
def State.pinOut (s : State) (x : Line) (half : Half) : Bool :=
  (s.line x).half half

/-- What a pin drives: nothing when it is released ("A pin with `pin_oe = 0` drives nothing", R27). -/
def State.pinDrives (s : State) (x : Line) (half : Half) : Option Bool :=
  if s.pinOe x half then some (s.pinOut x half) else none

/-- `cmd_ready = (seq = READY)` (R36). -/
def State.cmdReady (s : State) : Bool :=
  s.seq == .ready

/-- `busy = not cmd_ready` (R36). -/
def State.busy (s : State) : Bool :=
  !s.cmdReady

/-- `adc_req` is 1 exactly in G_RD_DP and G_RD_DM (R181). -/
def State.adcReq (s : State) : Bool :=
  s.seq == .gRdDp || s.seq == .gRdDm

/-- `adc_ch`: the channel of the read in progress, 0 otherwise (R181). -/
def State.adcCh (s : State) : Chan :=
  match s.seq with
  | .gRdDp => s.ir.extractLsb' 4 4
  | .gRdDm => s.ir.extractLsb' 0 4
  | _ => 0

/-- All outputs of the block (R217). The `l`, `h` bits of a line in Listen, `seq`, `timer`, `ir`,
`req_mode`, `lnk`, `adc_dp`, `adc_dm` and `est_mv` are not among them. -/
structure Outputs where
  dpH : Option Bool
  dpL : Option Bool
  dmH : Option Bool
  dmL : Option Bool
  cmdReady : Bool
  busy : Bool
  modeOut : BitVec 3
  qcCapable : Bool
  hsOut : BitVec 3
  respValid : Bool
  respStatus : BitVec 3
  respData : BitVec 3
  diag : BitVec 3
  adcReq : Bool
  adcCh : Chan
  deriving DecidableEq, Repr

/-- The outputs a state shows. -/
def State.outputs (s : State) : Outputs where
  dpH := s.pinDrives .dp .h
  dpL := s.pinDrives .dp .l
  dmH := s.pinDrives .dm .h
  dmL := s.pinDrives .dm .l
  cmdReady := s.cmdReady
  busy := s.busy
  modeOut := s.mode.code
  qcCapable := s.qc
  hsOut := Hs.code s.hs
  respValid := s.respValid
  respStatus := Cond.code s.respStatus
  respData := s.respData
  diag := Cond.code s.diag
  adcReq := s.adcReq
  adcCh := s.adcCh

end Sys2Proof.Machine
end

