-- ==== Sys2Proof/Machine/System.lean ====
section
/-! DEFINITION. A system of `N_PORTS` instances (R247 of 60_exceptions.md): "The step of a system of
`N_PORTS` instances is the product of the instances' steps." -/

namespace Sys2Proof.Machine

/-- A system: at least one instance ("OPEN, at least 1; instances are independent", R8 of 00_scope.md). The
systems of R247 are the ones that are `wellFormed`. -/
structure System where
  first : State
  others : List State
  deriving DecidableEq, Repr

/-- The instances of a system. -/
def System.instances (y : System) : List State :=
  y.first :: y.others

/-- `N_PORTS` (R8 of 00_scope.md), the number of instances. -/
def System.nPorts (y : System) : Nat :=
  y.instances.length

/-- No two instances share their pins: "no shared mutable state between them beyond distinct GPIO pin
numbers" (R247). -/
def System.wellWired (y : System) : Bool :=
  decide (y.instances.map (·.cfg.wiring)).Nodup

/-- All instances have the parameters of the first but for the wiring: "they differ only in the pins and ADC
channels they are wired to" (R247). -/
def System.sameParameters (y : System) : Bool :=
  y.others.all fun s => s.cfg == { y.first.cfg with wiring := s.cfg.wiring }

/-- What R247 says of the instances of a system: equal parameters, each on its own pins. Every tick keeps it. -/
def System.wellFormed (y : System) : Bool :=
  y.sameParameters && y.wellWired

/-- The instance that is built on the pins `w` with the parameters `c`, right after reset (R39 of 10_state.md,
R262 of 70_reset_and_hazards.md). -/
def portReset (c : Config) (w : Nat) : State :=
  { State.reset with cfg := { c with wiring := w } }

/-- A system right after reset: one instance per physical port, with the parameters `c` on the pins `w` and
`ws` (R247; "constructed once per physical port", R8 of 00_scope.md). -/
def System.reset (c : Config) (w : Nat) (ws : List Nat) : System where
  first := portReset c w
  others := ws.map (portReset c)

/-- One tick of a list of instances: each takes its own step; the instances share nothing. When an
instance has no step the list has none, for the first such instance's reason (log 15). -/
def stepAll : List State → Host.Outcome (List State) Fault Refusal
  | [] => .next []
  | s :: rest =>
    match step s with
    | .fault f => .fault f
    | .refused r => .refused r
    | .next t =>
      match stepAll rest with
      | .fault f => .fault f
      | .refused r => .refused r
      | .next ts => .next (t :: ts)

/-- One tick of a system (R247). -/
def systemStep (y : System) : Host.Outcome System Fault Refusal :=
  match step y.first with
  | .fault f => .fault f
  | .refused r => .refused r
  | .next t =>
    match stepAll y.others with
    | .fault f => .fault f
    | .refused r => .refused r
    | .next ts => .next ⟨t, ts⟩

end Sys2Proof.Machine
end

