-- ==== Sys2Proof/Safety.lean ====
section
/-! DEFINITION. What claims are stated with: runs of several ticks, the states a run can reach, the
invariant of the reachable states (R38 and R30 of 10_state.md, strengthened to be kept by every step), and
the comparison of two states that differ only in what no output shows. -/

namespace Sys2Proof.Machine

/-- `k` ticks, stopping at the first refusal. -/
def ticks : Nat → State → Result
  | 0, s => .next s
  | k + 1, s => andThen (step s) (ticks k)

/-- No reset in the next `k` ticks. -/
def NoReset (k : Nat) (s : State) : Prop :=
  ∀ j, j < k → (s.inputAt j).rst = false

/-- The state `k` ticks later (`k` at least 1) as far as the frame of a tick goes: the pulses are down
(R207 of 45_sequencer.md), the inputs of the `k` ticks are gone, everything else is as it was. -/
def ticked (k : Nat) (s : State) : State :=
  { s with respValid := false, diag := .ok, inputs := s.inputs.drop k, tick := s.tick + k }

/-- The next tick runs the sequencer in state `q`: no reset is asserted and no word is given from outside
the sequencer (log 5). -/
structure State.AtStep (s : State) (q : Seq) : Prop where
  seq : s.seq = q
  bench : s.bench = none
  noReset : s.input.rst = false

/-- The host offers a command word in the tick `k` ticks from now. -/
def Offers (s : State) (k : Nat) (w : CmdWord) : Prop :=
  (s.inputAt k).cmdValid = true ∧ (s.inputAt k).cmd = w

/-- Run instructions one after another, without the frame of a tick. -/
def execAll : List Instr → State → Result
  | [], s => .next s
  | i :: rest, s => andThen (exec i s) (execAll rest)

/-- `max(N, 1)`: how many ticks a wait loaded with `N` lasts (R210 of 45_sequencer.md). -/
def waitTicks (n : Ticks) : Nat :=
  max n.toNat 1

/-- A state that a run from reset can reach, for any parameters and any inputs. -/
inductive Reachable : State → Prop where
  | reset (c : Config) (ins : List TickInput) : Reachable { State.reset with cfg := c, inputs := ins }
  | step (s t : State) (hs : Reachable s) (ht : step s = .next t) : Reachable t

/-- The five Q_ states, the REQUEST steps. -/
def Seq.inRequest : Seq → Bool
  | .qLsnDp | .qLsnDm | .qWait | .qSetDp | .qSetDm => true
  | _ => false

/-- The sequencer states in which no line has been touched since the last resting state: READY, B_LSN_DM
and the four G_ states (R38 item (e)). -/
def Seq.resting : Seq → Bool
  | .ready | .bLsnDm | .gRdDp | .gRdDm | .gWait | .gCls => true
  | _ => false

/-- The successor of a wait state; none for a state that does not wait (R210 of 45_sequencer.md). -/
def Seq.waitSuccessor : Seq → Option Seq
  | .bWait1 => some .bSmp1
  | .bWait2 => some .bHi2Dp
  | .bWait3 => some .bSmp2
  | .qWait => some .qSetDp
  | .gWait => some .gCls
  | _ => none

/-- Both lines are driven at the pair of the request table for a mode (R151 of 42_mode_request.md). -/
def State.drivesPair (s : State) (m : Mode) : Bool :=
  match requestTable m with
  | some (p, q) => s.lineDp == p.driven && s.lineDm == q.driven
  | none => false

/-- D+ is driven at the D+ level of the request table for a mode. -/
def State.drivesDp (s : State) (m : Mode) : Bool :=
  match requestTable m with
  | some (p, _) => s.lineDp == p.driven
  | none => false

/-- D+ driven at a level and D- released: the shape of every probing state. -/
def State.probes (s : State) (level : Level) : Bool :=
  s.lineDp == level.driven && s.lineDm.oe == false

/-- The invariant of the reachable states. Fields `modeNeedsQc` to `link` contain items (b) to (f) of R38;
`request` contains R30; the others say where each probing state is in its sequence. -/
structure State.Inv (s : State) : Prop where
  /-- no word is given from outside the sequencer (log 5) -/
  bench : s.bench = none
  /-- (b) `mode` is in {2..6} only if `qc = 1` -/
  modeNeedsQc : s.mode.requestable = true → s.qc = true
  /-- (e) before any BEGIN -/
  idle : s.hs = .idle → s.qc = false ∧ s.mode = .disconnected ∧ s.lineDp.oe = false ∧
    s.lineDm.oe = false ∧ s.seq.resting = true
  /-- (d) after a handshake that failed -/
  fallback : s.hs = .fallback → s.qc = false ∧ s.mode = .generic5v ∧ s.probes .mv3300 = true ∧
    s.seq.resting = true
  /-- (c) after a handshake that succeeded -/
  established : s.hs = .established → s.qc = true ∧ s.mode.requestable = true ∧
    ((s.seq.resting = true ∧ s.drivesPair s.mode = true) ∨ s.seq.inRequest = true)
  /-- steps 1 and 2 of the handshake -/
  probeListen : s.hs = .probeListen → (s.seq = .bHiDp ∧ s.lineDm.oe = false) ∨
    ((s.seq = .bWait1 ∨ s.seq = .bSmp1 ∨ s.seq = .bGliDp) ∧ s.probes .mv3300 = true)
  /-- step 3 of the handshake -/
  probeGlitch : s.hs = .probeGlitch → (s.seq = .bWait2 ∨ s.seq = .bHi2Dp) ∧ s.probes .mv600 = true
  /-- step 4 of the handshake and the nested request of step 5 -/
  probeRecheck : s.hs = .probeRecheck →
    ((s.seq = .bWait3 ∨ s.seq = .bSmp2) ∧ s.probes .mv3300 = true) ∨ s.seq.inRequest = true
  /-- (f) the link bit -/
  link : s.lnk = true → s.seq.inRequest = true ∧ s.hs = .probeRecheck ∧ s.reqMode = .qc5v
  /-- R30, and on whose behalf the REQUEST steps run -/
  request : s.seq.inRequest = true → s.qc = true ∧ s.reqMode.requestable = true ∧
    ((s.hs = .probeRecheck ∧ s.lnk = true) ∨ s.hs = .established)
  /-- the lines during the REQUEST steps -/
  requestLines : (s.seq = .qLsnDm → s.lineDp.oe = false) ∧
    (s.seq = .qWait ∨ s.seq = .qSetDp → s.lineDp.oe = false ∧ s.lineDm.oe = false) ∧
    (s.seq = .qSetDm → s.drivesDp s.reqMode = true ∧ s.lineDm.oe = false)
  /-- R28: the timer is 0 outside the wait states -/
  timer : s.seq.waitSuccessor = none → s.timer = 0
  /-- R33, R207: a response is shown in READY only -/
  response : s.respValid = true → s.seq = .ready
  /-- R34: a diagnostic comes with a response -/
  diagnostic : s.diag ≠ .ok → s.respValid = true
  /-- R231: AMBIG is never a status -/
  status : s.respStatus ≠ .ambig

/-- A line record without what no output shows: in Listen the `l` and `h` bits are "not observable" (R26
of 10_state.md). -/
def LineReg.visible (r : LineReg) : LineReg :=
  if r.oe then r else ⟨false, false, false⟩

/-- A state without the bits of released lines and without `est_mv`, which no rule reads (R25, R26 of
10_state.md). -/
def State.visible (s : State) : State :=
  { s with lineDp := s.lineDp.visible, lineDm := s.lineDm.visible, estMv := 0 }

end Sys2Proof.Machine
end

