-- ==== Sys2Proof/Certificates/Slice0/Obligations.lean ====
section
/-! DEFINITION. The statements for the provers. Each docstring names the rules of spec/ it states. `log n`
is notes/assumptions/n.md. -/

open Sys2Proof Sys2Proof.Machine

/-! ### Encoding (30_encoding.md) -/

/-- Formats N, M, A, V, U (R71 to R75) and the two decoders (R81, R83): no bit of an encoding is dropped. -/
def Obligations.DecodeOfEncodeIsIdentity : Prop :=
  ∀ i : Instr, decode (encode i) = .ok i

/-- The other direction: every word that decodes is the word of the instruction it decodes to. -/
def Obligations.EncodeOfDecodeIsIdentity : Prop :=
  ∀ (w : AnyWord) (i : Instr), decode w = .ok i → encode i = w

/-- The decoder against the opcode map of R82, which is written independently of it: a word that decodes
spells exactly one row, the row of its instruction's mnemonic; any other word spells none. -/
def Obligations.DecodeAgreesWithTheOpcodeMap : Prop :=
  ∀ w : AnyWord,
    (∀ i, decode w = .ok i → (opcodeMap.filter (·.spelledBy w)).map (·.mnemonic) = [i.mnemonic]) ∧
    (∀ e, decode w = .error e → opcodeMap.filter (·.spelledBy w) = [])

/-- R84: which command words are ILLEGAL. -/
def Obligations.ReservedCommandWordsAreIllegal : Prop :=
  (∀ w : CmdWord, decodeCmd w = .error .illegalCommand ↔
    (w.extractLsb' 28 4 = 0 ∨ 6 ≤ (w.extractLsb' 28 4).toNat ∨
      (w.extractLsb' 28 4 = 1 ∧ w.extractLsb' 0 28 ≠ 0) ∨
      (w.extractLsb' 28 4 = 2 ∧ w.extractLsb' 8 20 ≠ 0) ∨
      (w.extractLsb' 28 4 = 3 ∧ w.extractLsb' 0 28 ≠ 0) ∨
      (w.extractLsb' 28 4 = 4 ∧ w.extractLsb' 8 20 ≠ 0) ∨
      (w.extractLsb' 28 4 = 5 ∧ w.extractLsb' 24 4 ≠ 0))) ∧
  decodeCmd 0x00000000 = .error .illegalCommand ∧ decodeCmd 0xFFFFFFFF = .error .illegalCommand

/-- Words of 95_test_vectors.md (2.1 and 2.2) and of R88, one or more per family. -/
def Obligations.WordsOfTheSpecDecode : Prop :=
  decode (.cmd 0x10000000) = .ok .begin ∧
  decode (.cmd 0x20000003) = .ok (.request 3) ∧
  decode (.cmd 0x30000000) = .ok .isqc ∧
  decode (.cmd 0x40000023) = .ok (.getmode 2 3) ∧
  decode (.cmd 0x50CE4258) = .ok (.mfv 3300 600) ∧
  decode (.uop 0b1001) = .ok (.slSet .dm .mv600) ∧
  decode (.uop 0b1100) = .ok (.slListen .dm) ∧
  decode (.uop 0b1101) = .ok (.slRdh .dm) ∧
  decode (.uop 0b0110) = .ok (.slRdl .dp)

/-- The stops. R83: a word with `uk` = 0b111 is reserved and refused; only `bench` (log 5, the model's own) can
hold one, the sequencer never issues one. R30: the other refusal needs a `req_mode` without a row (log 8).
Nothing else stops. -/
def Obligations.RefusalsAreTheTwoNamedOnes : Prop :=
  (∀ u : UopWord, (∃ e, decodeUop u = .error e) ↔ u.extractLsb' 0 3 = 0b111) ∧
  (∀ (s : State) (u : UopWord), issued s = .word u → u.extractLsb' 0 3 ≠ 0b111) ∧
  (∀ (s : State) (r : Refusal), step s = .refused r ↔
    s.input.rst = false ∧
      ((r = .reservedMicroOp ∧ ∃ u, s.bench = some u ∧ u.extractLsb' 0 3 = 0b111) ∨
       (r = .noRequestRow ∧ s.bench = none ∧ (s.seq = .qSetDp ∨ s.seq = .qSetDm) ∧
        requestTable s.reqMode = none)))

/-! ### A step runs the decoded instruction -/

/-- R206: in READY a step without a command only ends the pulses (R207); a command word that is offered is
stored in `ir` and run, inside the frame of R205 and R207. -/
def Obligations.ReadyStepRunsTheOfferedCommand : Prop :=
  ∀ s : State, s.AtStep .ready →
    (s.input.cmdValid = false → step s = .next (ticked 1 s)) ∧
    (∀ i : Instr, s.input.cmdValid = true → decodeCmd s.input.cmd = .ok i →
      step s = andThen (exec i { s with respValid := false, diag := .ok, ir := s.input.cmd })
        fun t => .next { t with inputs := t.inputs.tail, tick := t.tick + 1 })

/-- The micro-operation word a micro-step issues is decoded and run like any instruction, on the state after
the pulses are cleared (R205, R207); the micro-step's own writes follow. -/
def Obligations.SequencerStepRunsItsMicroOperation : Prop :=
  ∀ (s : State) (u : UopWord) (i : Instr), s.bench = none → s.input.rst = false →
    issued s = .word u → decodeUop u = .ok i →
    step s = andThen (exec i { s with respValid := false, diag := .ok }) fun m =>
      andThen (microStep s.seq m) fun t => .next { t with inputs := t.inputs.tail, tick := t.tick + 1 }

/-- A word placed for the next step (log 9) is the instruction the decoder reads, for every row of the table
and every word. -/
def Obligations.PlacedWordIsTheNextInstruction : Prop :=
  ∀ (s : State) (nbits w : Nat) (i : Instr), decodeTableWord nbits w = some i →
    ∃ p : State, p = s.withFetchWord nbits w ∧ p.input.rst = false ∧
      step p = andThen
        (exec i { p with
          respValid := false, diag := .ok, bench := none,
          ir := if nbits ≤ 8 then p.ir else BitVec.ofNat 32 w })
        fun t => .next { t with inputs := t.inputs.tail, tick := t.tick + 1 }

/-! ### The Signal Line (40_signal_line.md) -/

/-- R102: the truth table, the code `{l, h}`, and "only one level is active at any instant": each pair of pin
values is exactly one level. -/
def Obligations.LevelTruthTable : Prop :=
  (∀ lv : Level, (lv.lowPin, lv.highPin, lv.code, (lv.nominal Config.default).toNat) =
    match lv with
    | .v0 => (false, false, 0b00, 0)
    | .mv600 => (false, true, 0b01, 600)
    | .mv2700 => (true, false, 0b10, 2700)
    | .mv3300 => (true, true, 0b11, 3300)) ∧
  (∀ l h : Bool, ∃ lv : Level, (lv.lowPin = l ∧ lv.highPin = h) ∧
    ∀ lv' : Level, lv'.lowPin = l ∧ lv'.highPin = h → lv' = lv)

/-- R103: SL.SET is the word `{ln, 0, l, h}`, and it completes on every line, at every level, from every state,
and writes the three bits of that line only. -/
def Obligations.SetLevelDrivesBothPins : Prop :=
  ∀ (s : State) (lv : Level),
    encode (.slSet .dp lv) = .uop (0#1 ++ 0#1 ++ BitVec.ofBool lv.lowPin ++ BitVec.ofBool lv.highPin) ∧
    encode (.slSet .dm lv) = .uop (1#1 ++ 0#1 ++ BitVec.ofBool lv.lowPin ++ BitVec.ofBool lv.highPin) ∧
    exec (.slSet .dp lv) s =
      .next { s with lineDp := ⟨true, lv.lowPin, lv.highPin⟩ } ∧
    exec (.slSet .dm lv) s =
      .next { s with lineDm := ⟨true, lv.lowPin, lv.highPin⟩ }

/-- R104: SL.LISTEN is the word `{ln, 0b100}`; it clears the output enable of its line and keeps everything
else. -/
def Obligations.ListenReleasesBothPins : Prop :=
  ∀ s : State,
    encode (.slListen .dp) = .uop 0b0100 ∧ encode (.slListen .dm) = .uop 0b1100 ∧
    exec (.slListen .dp) s = .next { s with lineDp := { s.lineDp with oe := false } } ∧
    exec (.slListen .dm) s = .next { s with lineDm := { s.lineDm with oe := false } }

/-- R105, R106: a pin read returns the driven bit of a driven line and the external level of a released one,
and writes no register of the block; that `readBit` carries the returned bit is the model's own (log 4). -/
def Obligations.PinReadsReturnPinIn : Prop :=
  ∀ (s : State) (x : Line),
    encode (.slRdh x) = .uop ((match x with | .dp => 0#1 | .dm => 1#1) ++ 0b101#3) ∧
    encode (.slRdl x) = .uop ((match x with | .dp => 0#1 | .dm => 1#1) ++ 0b110#3) ∧
    exec (.slRdh x) s = .next { s with
      readBit := if (s.line x).oe then (s.line x).h
        else match x with | .dp => s.input.extDpH | .dm => s.input.extDmH } ∧
    exec (.slRdl x) s = .next { s with
      readBit := if (s.line x).oe then (s.line x).l
        else match x with | .dp => s.input.extDpL | .dm => s.input.extDmL }

/-- R107, the read-back law: whatever ran before an SL.SET, and whatever runs after it other than SL.SET and
SL.LISTEN on the same line, both reads return the truth table's bits for that level. -/
def Obligations.DrivenLineReadsBackItsLevel : Prop :=
  ∀ (before after : List Instr) (s s0 : State) (x : Line) (lv : Level),
    execAll before s = .next s0 →
    (∀ i ∈ after, (∀ lv', i ≠ .slSet x lv') ∧ i ≠ .slListen x) →
    ∃ t, execAll (before ++ .slSet x lv :: after) s = .next t ∧
      exec (.slRdh x) t = .next { t with readBit := lv.highPin } ∧
      exec (.slRdl x) t = .next { t with readBit := lv.lowPin }

/-- R101: "the line registers change only by rules R103 and R104 and by reset". Over one whole tick: a line
either stays, or the tick's own micro-operation word was an SL.SET or SL.LISTEN of that line and had its
effect. A word may also come from `bench` (log 5, the model's own). -/
def Obligations.LinesChangeOnlyByMicroOperations : Prop :=
  ∀ (s t : State) (x : Line), step s = .next t → s.input.rst = false → t.line x ≠ s.line x →
    ∃ (u : UopWord) (i : Instr),
      (s.bench = some u ∨ (s.bench = none ∧ issued s = .word u)) ∧ decodeUop u = .ok i ∧
      ((∃ lv, i = .slSet x lv ∧ t.line x = ⟨true, lv.lowPin, lv.highPin⟩) ∨
       (i = .slListen x ∧ t.line x = { s.line x with oe := false }))

/-! ### The commands in the tick that accepts them -/

/-- R120, R136: BEGIN is accepted from every `hs`, and its acceptance changes only `ir` and `seq`. -/
def Obligations.BeginAcceptanceOnlyStarts : Prop :=
  ∀ s : State, exec .begin s = .next { s with ir := 0x10000000, seq := .bLsnDm }

/-- R200: ISQC, the word 0x30000000, answers `{0b00, qc}` in the tick that accepts it, and writes only `ir` and
`resp_*`; `diag` is 0 after that tick. -/
def Obligations.IsqcAnswersTheFlag : Prop :=
  ∀ s : State,
    encode .isqc = .cmd 0x30000000 ∧
    exec .isqc s = .next { s with
      ir := 0x30000000, respValid := true, respStatus := .ok,
      respData := if s.qc then 0b001 else 0b000, seq := .ready } ∧
    (s.AtStep .ready → Offers s 0 0x30000000 → step s = .next { ticked 1 s with
      ir := 0x30000000, respValid := true, respStatus := .ok,
      respData := if s.qc then 0b001 else 0b000 })

/-- R180: the acceptance of GETMODE changes only `ir`, which keeps the channel numbers, and `seq`. -/
def Obligations.GetmodeAcceptanceKeepsTheChannels : Prop :=
  ∀ (s : State) (a b : Chan), ∃ t, exec (.getmode a b) s = .next t ∧
    t = { s with ir := t.ir, seq := .gRdDp } ∧
    t.ir.toNat = 0x40000000 + a.toNat * 16 + b.toNat ∧
    t.ir.extractLsb' 4 4 = a ∧ t.ir.extractLsb' 0 4 = b

/-- R170: MFV, the word 0x50000000 + dp_mv·0x1000 + dm_mv, answers the decoded mode in the tick that accepts it,
notes AMBIG on Generic-5V, and writes only `ir`, `resp_*` and `diag` (and `seq`, which stays READY). -/
def Obligations.MfvAnswersTheDecodedMode : Prop :=
  ∀ (s : State) (a b : Mv), ∃ w : CmdWord, w.toNat = 0x50000000 + a.toNat * 0x1000 + b.toNat ∧
    encode (.mfv a b) = .cmd w ∧
    exec (.mfv a b) s = .next { s with
      ir := w, seq := .ready, respValid := true, respStatus := .ok,
      respData := Mode.code (decodeVoltages s.cfg a b),
      diag := if decodeVoltages s.cfg a b = .generic5v then .ambig else s.diag } ∧
    (s.AtStep .ready → Offers s 0 w → step s = .next { ticked 1 s with
      ir := w, respValid := true, respStatus := .ok,
      respData := Mode.code (decodeVoltages s.cfg a b),
      diag := if decodeVoltages s.cfg a b = .generic5v then .ambig else .ok })

/-- R152, R153, R154: the three rejections of REQUEST, in order; each changes only `ir`, `resp_*` and `diag`
(and `seq`, which stays READY). -/
def Obligations.RequestRejectionsInOrder : Prop :=
  ∀ (s : State) (m : Marg), ∃ w : CmdWord, w.toNat = 0x20000000 + m.toNat ∧
    (s.qc = false → exec (.request m) s = .next { s with
      ir := w, seq := .ready, respValid := true, respStatus := .cap, respData := s.mode.code,
      diag := .cap }) ∧
    (s.qc = true → m.toNat = 0 → exec (.request m) s = .next { s with
      ir := w, seq := .ready, respValid := true, respStatus := .logic, respData := s.mode.code,
      diag := .logic }) ∧
    (s.qc = true → m.toNat = 1 ∨ 7 ≤ m.toNat → exec (.request m) s = .next { s with
      ir := w, seq := .ready, respValid := true, respStatus := .invMode, respData := s.mode.code,
      diag := .invMode })

/-- R155: a REQUEST that passes the checks starts the REQUEST steps with `req_mode <- marg[2:0]` and
`lnk <- 0`, and gives no response yet. -/
def Obligations.RequestStartsTheRequestSteps : Prop :=
  ∀ (s : State) (m : Marg), s.qc = true → 2 ≤ m.toNat → m.toNat ≤ 6 →
    ∃ (w : CmdWord) (md : Mode), w.toNat = 0x20000000 + m.toNat ∧ md.code = m.extractLsb' 0 3 ∧
      md.requestable = true ∧
      exec (.request m) s = .next { s with ir := w, reqMode := md, lnk := false, seq := .qLsnDp }

/-- R85, R236: an accepted word that spells no command is answered with ILLCMD, and no other register changes
except `ir`. -/
def Obligations.IllegalCommandIsAnswered : Prop :=
  ∀ (s : State) (e : DecodeError), s.AtStep .ready → s.input.cmdValid = true →
    decodeCmd s.input.cmd = .error e →
    step s = .next { ticked 1 s with
      ir := s.input.cmd, respValid := true, respStatus := .illCmd, respData := s.mode.code,
      diag := .illCmd }

/-! ### The micro-steps -/

/-- R122, R123, R128, R130: the four driving steps of BEGIN, each with the word it issues and the whole next
state. -/
def Obligations.BeginDrivingSteps : Prop :=
  ∀ s : State,
    (s.AtStep .bLsnDm → issued s = .word 0b1100 ∧ step s = .next { ticked 1 s with
      hs := .probeListen, lineDm := { s.lineDm with oe := false }, seq := .bHiDp }) ∧
    (s.AtStep .bHiDp → issued s = .word 0b0011 ∧ step s = .next { ticked 1 s with
      lineDp := ⟨true, true, true⟩, timer := s.cfg.tSettle, seq := .bWait1 }) ∧
    (s.AtStep .bGliDp → issued s = .word 0b0001 ∧ step s = .next { ticked 1 s with
      hs := .probeGlitch, lineDp := ⟨true, false, true⟩, timer := s.cfg.tGlitch, seq := .bWait2 }) ∧
    (s.AtStep .bHi2Dp → issued s = .word 0b0011 ∧ step s = .next { ticked 1 s with
      hs := .probeRecheck, lineDp := ⟨true, true, true⟩, timer := s.cfg.tSettle, seq := .bWait3 })

/-- R125, R126, R127: the first sample. Its value is the high-pin of D- (the driven value if D- were driven);
that `readBit` keeps it is the model's own (log 4). -/
def Obligations.FirstSampleDecides : Prop :=
  ∀ s : State, s.AtStep .bSmp1 →
    ∃ smp : Bool, smp = (if s.lineDm.oe then s.lineDm.h else s.input.extDmH) ∧
      (smp = false → step s = .next { ticked 1 s with
        readBit := smp, mode := .generic5v, qc := false, hs := .fallback, seq := .ready,
        respValid := true, respStatus := .ok, respData := 1 }) ∧
      (smp = true → step s = .next { ticked 1 s with readBit := smp, seq := .bGliDp })

/-- R132, R133, R134: the second sample; that `readBit` keeps it is the model's own (log 4). -/
def Obligations.SecondSampleDecides : Prop :=
  ∀ s : State, s.AtStep .bSmp2 →
    ∃ smp : Bool, smp = (if s.lineDm.oe then s.lineDm.h else s.input.extDmH) ∧
      (smp = false → step s = .next { ticked 1 s with
        readBit := smp, qc := true, reqMode := .qc5v, lnk := true, seq := .qLsnDp }) ∧
      (smp = true → step s = .next { ticked 1 s with
        readBit := smp, mode := .generic5v, qc := false, hs := .fallback, seq := .ready,
        respValid := true, respStatus := .ok, respData := 1 })

/-- R156, R157, R159, R160: the four steps of REQUEST that touch a line, each with the word it issues and the
whole next state. `req_mode` has a row in every state that is reached (R30). -/
def Obligations.RequestSteps : Prop :=
  ∀ s : State,
    (s.AtStep .qLsnDp → issued s = .word 0b0100 ∧ step s = .next { ticked 1 s with
      lineDp := { s.lineDp with oe := false }, seq := .qLsnDm }) ∧
    (s.AtStep .qLsnDm → issued s = .word 0b1100 ∧ step s = .next { ticked 1 s with
      lineDm := { s.lineDm with oe := false }, timer := s.cfg.tSettle, seq := .qWait }) ∧
    (∀ p q : Level, requestTable s.reqMode = some (p, q) →
      (s.AtStep .qSetDp →
        issued s = .word (0b00#2 ++ BitVec.ofBool p.lowPin ++ BitVec.ofBool p.highPin) ∧
        step s = .next { ticked 1 s with lineDp := ⟨true, p.lowPin, p.highPin⟩, seq := .qSetDm }) ∧
      (s.AtStep .qSetDm →
        issued s = .word (0b10#2 ++ BitVec.ofBool q.lowPin ++ BitVec.ofBool q.highPin) ∧
        step s = .next { ticked 1 s with
          lineDm := ⟨true, q.lowPin, q.highPin⟩, mode := s.reqMode,
          hs := if s.lnk then .established else s.hs, lnk := false, seq := .ready,
          respValid := true, respStatus := .ok, respData := s.reqMode.code }))

/-- R182, R183, R185: the three steps of GETMODE that are no wait. The reads are of the channels `ir` names
in the tick of the read. -/
def Obligations.GetmodeSteps : Prop :=
  ∀ s : State,
    (s.AtStep .gRdDp → step s = .next { ticked 1 s with
      adcDp := s.input.adc.get (s.ir.extractLsb' 4 4).toFin, seq := .gRdDm }) ∧
    (s.AtStep .gRdDm → step s = .next { ticked 1 s with
      adcDm := s.input.adc.get (s.ir.extractLsb' 0 4).toFin, timer := s.cfg.tAdcSettle, seq := .gWait }) ∧
    (s.AtStep .gCls → step s = .next { ticked 1 s with
      seq := .ready, respValid := true, respStatus := .ok,
      respData := Mode.code (decodeVoltages s.cfg s.adcDp s.adcDm),
      diag := if decodeVoltages s.cfg s.adcDp s.adcDm = .generic5v then .ambig else .ok })

/-- The micro-operation word each sequencer state issues (R122 to R132, R156 to R160), as the instruction whose
word it is; the others issue none. -/
def Obligations.EachStepIssuesItsWord : Prop :=
  ∀ (s : State) (issues : Instr → Prop), (issues = fun i => ∃ u, issued s = .word u ∧ encode i = .uop u) →
    match s.seq with
    | .bLsnDm | .qLsnDm => issues (.slListen .dm)
    | .bHiDp | .bHi2Dp => issues (.slSet .dp .mv3300)
    | .bGliDp => issues (.slSet .dp .mv600)
    | .bSmp1 | .bSmp2 => issues (.slRdh .dm)
    | .qLsnDp => issues (.slListen .dp)
    | .qSetDp => ∀ p q, requestTable s.reqMode = some (p, q) → issues (.slSet .dp p)
    | .qSetDm => ∀ p q, requestTable s.reqMode = some (p, q) → issues (.slSet .dm q)
    | .ready | .bWait1 | .bWait2 | .bWait3 | .qWait | .gRdDp | .gRdDm | .gWait | .gCls => issued s = .silent

/-- R210, the pseudocode of the five wait states (R124, R129, R131, R158, R184). -/
def Obligations.WaitStatesCountDown : Prop :=
  ∀ (s : State) (q succ : Seq),
    (q, succ) ∈ [(Seq.bWait1, Seq.bSmp1), (.bWait2, .bHi2Dp), (.bWait3, .bSmp2), (.qWait, .qSetDp),
      (.gWait, .gCls)] →
    s.AtStep q →
    step s = .next (if 1 < s.timer.toNat then { ticked 1 s with timer := s.timer - 1 }
      else { ticked 1 s with timer := 0, seq := succ })

/-- R210, R216: a wait state loaded with `N` is occupied for exactly `max(N, 1)` ticks and changes nothing else
on the way, so the whole wait may be taken as one step. -/
def Obligations.WaitLastsItsTicks : Prop :=
  ∀ (s : State) (succ : Seq), s.seq.waitSuccessor = some succ → s.bench = none →
    NoReset (waitTicks s.timer) s →
    (∀ j, 0 < j → j < waitTicks s.timer →
      ticks j s = .next { ticked j s with timer := s.timer - BitVec.ofNat 21 j }) ∧
    ticks (waitTicks s.timer) s = .next { ticked (waitTicks s.timer) s with timer := 0, seq := succ }

/-! ### The decoder (43_decoder.md) -/

/-- R171 with the default edges. -/
def Obligations.BandsAreHalfOpen : Prop :=
  ∀ v : Mv,
    (bandOf Config.default v = .low ↔ v.toNat < 200) ∧
    (bandOf Config.default v = .mid ↔ 200 ≤ v.toNat ∧ v.toNat < 1000) ∧
    (bandOf Config.default v = .high ↔ 2900 ≤ v.toNat ∧ v.toNat < 3600) ∧
    (bandOf Config.default v = .none ↔ (1000 ≤ v.toNat ∧ v.toNat < 2900) ∨ 3600 ≤ v.toNat)

/-- R172 for any well-formed edges: the bands are disjoint, so each band is its own interval and the order of
the tests of R171 changes no result. -/
def Obligations.BandsAreDisjoint : Prop :=
  ∀ (c : Config) (v : Mv), c.wellFormed = true →
    (bandOf c v = .low ↔ c.lowLo ≤ v.toNat ∧ v.toNat < c.lowHi) ∧
    (bandOf c v = .mid ↔ c.midLo ≤ v.toNat ∧ v.toNat < c.midHi) ∧
    (bandOf c v = .high ↔ c.highLo ≤ v.toNat ∧ v.toNat < c.highHi)

/-- R174, R175, R176: the result for each of the sixteen band pairs, for any edges and either `DECODE_ROW4`, under
each `DISC_RULE`. Under EXACT the five classified pairs come first, whatever the edges make of 0. -/
def Obligations.DecodeOfEachBandPair : Prop :=
  ∀ (c : Config) (dp dm : Mv),
    (c.discRule = .band → decodeVoltages c dp dm =
      match bandOf c dp, bandOf c dm with
      | .low, .low => .disconnected
      | .low, .mid | .low, .high | .low, .none => .generic5v
      | .mid, .low => .qc5v
      | .mid, .mid => .qc12v
      | .mid, .high => .qcVariable
      | .mid, .none => .generic5v
      | .high, .low => .generic5v
      | .high, .mid => (match c.decodeRow4 with | .qc9v => .qc9v | .qc12v => .qc12v)
      | .high, .high => .qc20v
      | .high, .none => .generic5v
      | .none, _ => .generic5v) ∧
    (c.discRule = .exact → decodeVoltages c dp dm =
      match bandOf c dp, bandOf c dm with
      | .mid, .low => .qc5v
      | .mid, .mid => .qc12v
      | .mid, .high => .qcVariable
      | .high, .mid => (match c.decodeRow4 with | .qc9v => .qc9v | .qc12v => .qc12v)
      | .high, .high => .qc20v
      | .low, _ | .mid, .none | .high, .low | .high, .none | .none, _ =>
        if dp.toNat = 0 ∧ dm.toNat = 0 then .disconnected else .generic5v)

/-- R175: under EXACT only (0, 0) is Disconnected; every other pair of voltages below 200 mV is Generic-5V. -/
def Obligations.ExactRuleNeedsTwoZeros : Prop :=
  ∀ dp dm : Mv, dp.toNat < 200 → dm.toNat < 200 →
    decodeVoltages { Config.default with discRule := .exact } dp dm =
        (if dp.toNat = 0 ∧ dm.toNat = 0 then .disconnected else .generic5v) ∧
    decodeVoltages Config.default dp dm = .disconnected

/-- R177, the round trip, for all parameters whose bands hold the three nominal levels the table uses and
whose fourth row is QC-9V (conflict C1). -/
def Obligations.RequestTableDecodesBack : Prop :=
  ∀ (c : Config) (m : Mode) (p q : Level),
    bandOf c (Level.nominal c .v0) = .low → bandOf c (Level.nominal c .mv600) = .mid →
    bandOf c (Level.nominal c .mv3300) = .high → c.decodeRow4 = .qc9v →
    requestTable m = some (p, q) →
    decodeVoltages c (p.nominal c) (q.nominal c) = m

/-! ### Whole-machine rules over one tick -/

/-- R22: who writes `mode`. No ISQC, MFV, GETMODE, rejected command, wait or pin operation does. -/
def Obligations.ModeIsWrittenOnlyByFallbackAndRequest : Prop :=
  ∀ s t : State, step s = .next t → s.input.rst = false → t.mode ≠ s.mode →
    s.bench = none ∧
    (((s.seq = .bSmp1 ∨ s.seq = .bSmp2) ∧ t.mode = .generic5v ∧ t.hs = .fallback) ∨
     (s.seq = .qSetDm ∧ t.mode = s.reqMode ∧ t.respValid = true))

/-- R23: `qc` rises only at a second sample that reads low and falls only at a sample that ends in
FALLBACK. -/
def Obligations.QcIsWrittenOnlyByTheSamples : Prop :=
  ∀ s t : State, step s = .next t → s.input.rst = false →
    (s.qc = false → t.qc = true → s.bench = none ∧ s.seq = .bSmp2 ∧ pinIn s .dm .h = false) ∧
    (s.qc = true → t.qc = false → s.bench = none ∧
      ((s.seq = .bSmp1 ∧ pinIn s .dm .h = false) ∨ (s.seq = .bSmp2 ∧ pinIn s .dm .h = true)))

/-- R21: `hs` is written by BEGIN only, including the REQUEST steps BEGIN runs through `lnk`; a REQUEST of the
host never changes it. -/
def Obligations.HsIsWrittenOnlyByBegin : Prop :=
  ∀ s t : State, step s = .next t → s.input.rst = false → t.hs ≠ s.hs →
    s.bench = none ∧
    ((s.seq = .bLsnDm ∧ t.hs = .probeListen) ∨ (s.seq = .bGliDp ∧ t.hs = .probeGlitch) ∨
     (s.seq = .bHi2Dp ∧ t.hs = .probeRecheck) ∨
     ((s.seq = .bSmp1 ∨ s.seq = .bSmp2) ∧ t.hs = .fallback) ∨
     (s.seq = .qSetDm ∧ s.lnk = true ∧ t.hs = .established))

/-- R207: the response and the diagnostic are one-tick pulses, and `resp_status`, `resp_data` change only in a
completing step. -/
def Obligations.ResponsesAreOneTickPulses : Prop :=
  ∀ s t : State, step s = .next t → s.input.rst = false →
    (t.respValid = false ∧ t.diag = .ok ∧ t.respStatus = s.respStatus ∧ t.respData = s.respData) ∨
    (t.respValid = true ∧ t.seq = .ready ∧ s.bench = none ∧
      ((s.seq = .ready ∧ s.input.cmdValid = true) ∨ s.seq = .bSmp1 ∨ s.seq = .bSmp2 ∨ s.seq = .qSetDm ∨
        s.seq = .gCls))

/-- R211: every transfer of control, with the condition of each, and whether it comes with a response; a
second sample that reads low also sets `lnk`. -/
def Obligations.ControlTransfers : Prop :=
  ∀ s t : State, step s = .next t → s.input.rst = false → s.bench = none →
    (t.seq, t.respValid) =
      (match s.seq with
      | .ready =>
        if s.input.cmdValid = false then (.ready, false)
        else
          match decodeCmd s.input.cmd with
          | .error _ => (.ready, true)
          | .ok .begin => (.bLsnDm, false)
          | .ok (.request m) =>
            if s.qc = true ∧ 2 ≤ m.toNat ∧ m.toNat ≤ 6 then (.qLsnDp, false) else (.ready, true)
          | .ok (.getmode _ _) => (.gRdDp, false)
          | .ok _ => (.ready, true)
      | .bLsnDm => (.bHiDp, false)
      | .bHiDp => (.bWait1, false)
      | .bWait1 => (if 1 < s.timer.toNat then .bWait1 else .bSmp1, false)
      | .bSmp1 => if pinIn s .dm .h then (.bGliDp, false) else (.ready, true)
      | .bGliDp => (.bWait2, false)
      | .bWait2 => (if 1 < s.timer.toNat then .bWait2 else .bHi2Dp, false)
      | .bHi2Dp => (.bWait3, false)
      | .bWait3 => (if 1 < s.timer.toNat then .bWait3 else .bSmp2, false)
      | .bSmp2 => if pinIn s .dm .h then (.ready, true) else (.qLsnDp, false)
      | .qLsnDp => (.qLsnDm, false)
      | .qLsnDm => (.qWait, false)
      | .qWait => (if 1 < s.timer.toNat then .qWait else .qSetDp, false)
      | .qSetDp => (.qSetDm, false)
      | .qSetDm => (.ready, true)
      | .gRdDp => (.gRdDm, false)
      | .gRdDm => (.gWait, false)
      | .gWait => (if 1 < s.timer.toNat then .gWait else .gCls, false)
      | .gCls => (.ready, true)) ∧
    (s.seq = .bSmp2 → pinIn s .dm .h = false → t.lnk = true)

/-- R209: while busy the step ignores `cmd_valid` and `cmd` entirely. -/
def Obligations.BusyStepIgnoresTheHost : Prop :=
  ∀ (s : State) (v : Bool) (w : CmdWord), s.seq ≠ .ready →
    step (s.setInput { s.input with cmdValid := v, cmd := w }) = step s

/-- R208, R206: which inputs a step reads besides `rst`. READY reads only `cmd_valid` and, when that is 1, `cmd`;
the two samples read only `ext(DM, H)`; the two ADC steps read only the channel they name; every other step reads
nothing. -/
def Obligations.StepsReadOnlyTheirInputs : Prop :=
  ∀ (s : State) (i : TickInput), s.bench = none → s.input.rst = false → i.rst = false →
    (s.seq = .ready → i.cmdValid = s.input.cmdValid → (i.cmdValid = true → i.cmd = s.input.cmd) →
      step (s.setInput i) = step s) ∧
    (s.seq ∉ [Seq.ready, .bSmp1, .bSmp2, .gRdDp, .gRdDm] → step (s.setInput i) = step s) ∧
    (s.seq = .bSmp1 ∨ s.seq = .bSmp2 → i.extDmH = s.input.extDmH → step (s.setInput i) = step s) ∧
    (s.seq = .gRdDp ∨ s.seq = .gRdDm → i.adc.get s.adcCh.toFin = s.input.adc.get s.adcCh.toFin →
      step (s.setInput i) = step s)

/-! ### Reset (70_reset_and_hazards.md) -/

/-- R260: in any tick with `rst = 1` the next state is `ResetState`, whatever the state was: every register at
its value, `est_mv` unspecified (some `e`); of the model's own fields only the parameters stay. -/
def Obligations.ResetWinsOverEverything : Prop :=
  ∀ s : State, s.input.rst = true →
    ∃ (e : BitVec 16) (r : Bool), step s = .next {
      hs := .idle, mode := .disconnected, qc := false, seq := .ready, estMv := e,
      lineDp := ⟨false, false, false⟩, lineDm := ⟨false, false, false⟩, timer := 0, ir := 0,
      reqMode := .disconnected, lnk := false, adcDp := 0, adcDm := 0,
      respValid := false, respStatus := .ok, respData := 0, diag := .ok,
      cfg := s.cfg, inputs := s.inputs.tail, tick := s.tick + 1, readBit := r, bench := none }

/-- R39: `ResetState`, every field the spec gives a value, with the codes of R21, R22, R24, R231; and
the codes of the sequencer states in full (R24). -/
def Obligations.ResetStateHasTheValuesOfTheSpec : Prop :=
  ∀ s : State, s = State.reset →
    Hs.code s.hs = 0 ∧ s.mode.code = 0 ∧ s.qc = false ∧ Seq.code s.seq = 0 ∧
    s.lineDp = ⟨false, false, false⟩ ∧ s.lineDm = ⟨false, false, false⟩ ∧ s.timer = 0 ∧ s.ir = 0 ∧
    s.reqMode.code = 0 ∧ s.lnk = false ∧ s.adcDp = 0 ∧ s.adcDm = 0 ∧
    s.respValid = false ∧ Cond.code s.respStatus = 0 ∧ s.respData = 0 ∧ Cond.code s.diag = 0 ∧
    [Seq.ready, .bLsnDm, .bHiDp, .bWait1, .bSmp1, .bGliDp, .bWait2, .bHi2Dp, .bWait3, .bSmp2, .qLsnDp, .qLsnDm,
      .qWait, .qSetDp, .qSetDm, .gRdDp, .gRdDm, .gWait, .gCls].map (fun q => q.code.toNat) = List.range 19

/-! ### Outputs -/

/-- R27, R36, R181, R217: what the block shows, every field of `outputs`; the codes of R22, R21 and R231 as
numbers; then the pins one by one and the symbolic level. -/
def Obligations.OutputsShowTheRegisters : Prop :=
  ∀ (s : State),
    s.outputs =
      { dpH := if s.lineDp.oe then some s.lineDp.h else none
        dpL := if s.lineDp.oe then some s.lineDp.l else none
        dmH := if s.lineDm.oe then some s.lineDm.h else none
        dmL := if s.lineDm.oe then some s.lineDm.l else none
        cmdReady := decide (s.seq = .ready)
        busy := decide (s.seq ≠ .ready)
        modeOut := s.mode.code
        qcCapable := s.qc
        hsOut := s.hs.code
        respValid := s.respValid
        respStatus := s.respStatus.code
        respData := s.respData
        diag := s.diag.code
        adcReq := decide (s.seq = .gRdDp ∨ s.seq = .gRdDm)
        adcCh := if s.seq = .gRdDp then s.ir.extractLsb' 4 4
          else if s.seq = .gRdDm then s.ir.extractLsb' 0 4 else 0 } ∧
    (∀ m : Mode, m.code.toNat =
      match m with
      | .disconnected => 0 | .generic5v => 1 | .qc5v => 2 | .qc9v => 3 | .qc12v => 4 | .qc20v => 5
      | .qcVariable => 6) ∧
    (∀ h : Hs, h.code.toNat =
      match h with
      | .idle => 0 | .probeListen => 1 | .probeGlitch => 2 | .probeRecheck => 3 | .established => 4
      | .fallback => 5) ∧
    (∀ e : Cond, e.code.toNat =
      match e with
      | .ok => 0 | .cap => 1 | .logic => 2 | .invMode => 3 | .ambig => 4 | .illCmd => 5) ∧
    (∀ (x : Line) (half : Half), s.pinOe x half = (s.line x).oe ∧
      s.pinOut x half = (match half with | .h => (s.line x).h | .l => (s.line x).l) ∧
      s.pinDrives x half = if s.pinOe x half then some (s.pinOut x half) else none) ∧
    (∀ (x : Line) (lv : Level), (s.line x).symbolic = some lv ↔
      s.pinDrives x .h = some (lv.highPin) ∧ s.pinDrives x .l = some (lv.lowPin))

/-! ### The invariant -/

/-- The invariant (R38, R30, strengthened) holds after reset, for all parameters and inputs. -/
def Obligations.InvariantHoldsAtReset : Prop :=
  ∀ (c : Config) (ins : List TickInput), State.Inv { State.reset with cfg := c, inputs := ins }

/-- Every step keeps the invariant, from every state that meets it. -/
def Obligations.EveryStepKeepsTheInvariant : Prop :=
  ∀ s t : State, s.Inv → step s = .next t → t.Inv

/-- R205: "every reachable state has exactly one successor for given inputs": a state that meets the invariant
always has a step, so no refusal is reached. -/
def Obligations.InvariantStatesAlwaysStep : Prop :=
  ∀ s : State, s.Inv → ∃ t, step s = .next t

/-- R38, items (b) to (g), of every reachable state. -/
def Obligations.ReachableStatesMeetR38 : Prop :=
  ∀ s : State, Reachable s →
    (s.mode ∉ [Mode.disconnected, .generic5v] → s.qc = true) ∧
    (s.seq = .ready → s.hs = .established → s.qc = true ∧ ∃ p q, requestTable s.mode = some (p, q) ∧
      s.lineDp.symbolic = some p ∧ s.lineDm.symbolic = some q) ∧
    (s.seq = .ready → s.hs = .fallback → s.qc = false ∧ s.mode = .generic5v ∧ s.lineDm.oe = false ∧
      s.lineDp = ⟨true, true, true⟩) ∧
    (s.hs = .idle → s.qc = false ∧ s.mode = .disconnected ∧ s.lineDp.oe = false ∧ s.lineDm.oe = false ∧
      s.seq ∈ [Seq.ready, .bLsnDm, .gRdDp, .gRdDm, .gWait, .gCls]) ∧
    (s.lnk = true → s.seq ∈ [Seq.qLsnDp, .qLsnDm, .qWait, .qSetDp, .qSetDm] ∧ s.hs = .probeRecheck) ∧
    (s.seq = .ready → s.hs ∈ [Hs.idle, .established, .fallback] ∧ (s.qc = true ↔ s.hs = .established))

/-! ### Whole commands -/

/-- R126, R135, R281: BEGIN whose first sample reads low, from any state in READY: after `Ts + 4` ticks. -/
def Obligations.BeginWithoutAFarEndFallsBack : Prop :=
  ∀ (s : State) (ts n : Nat), ts = waitTicks s.cfg.tSettle → n = ts + 4 →
    s.AtStep .ready → NoReset n s → Offers s 0 0x10000000 →
    (s.inputAt (ts + 3)).extDmH = false →
    ticks n s = .next { ticked n s with
      hs := .fallback, mode := .generic5v, qc := false, lineDp := ⟨true, true, true⟩,
      lineDm := { s.lineDm with oe := false }, timer := 0, ir := 0x10000000, readBit := false,
      respValid := true, respStatus := .ok, respData := 1 }

/-- R134, R135, R281: BEGIN whose two samples read high: after `Tg + 2 Ts + 7` ticks. -/
def Obligations.BeginNotAcknowledgedFallsBack : Prop :=
  ∀ (s : State) (ts tg n : Nat), ts = waitTicks s.cfg.tSettle → tg = waitTicks s.cfg.tGlitch →
    n = tg + 2 * ts + 7 → s.AtStep .ready → NoReset n s → Offers s 0 0x10000000 →
    (s.inputAt (ts + 3)).extDmH = true → (s.inputAt (tg + 2 * ts + 6)).extDmH = true →
    ticks n s = .next { ticked n s with
      hs := .fallback, mode := .generic5v, qc := false, lineDp := ⟨true, true, true⟩,
      lineDm := { s.lineDm with oe := false }, timer := 0, ir := 0x10000000, readBit := true,
      respValid := true, respStatus := .ok, respData := 1 }

/-- R133, R135, R281: BEGIN that is acknowledged: after `Tg + 3 Ts + 11` ticks the block is ESTABLISHED in
QC-5V with the pair of QC-5V on the lines. -/
def Obligations.BeginAcknowledgedEstablishes : Prop :=
  ∀ (s : State) (ts tg n : Nat), ts = waitTicks s.cfg.tSettle → tg = waitTicks s.cfg.tGlitch →
    n = tg + 3 * ts + 11 → s.AtStep .ready → NoReset n s → Offers s 0 0x10000000 →
    (s.inputAt (ts + 3)).extDmH = true → (s.inputAt (tg + 2 * ts + 6)).extDmH = false →
    ticks n s = .next { ticked n s with
      hs := .established, mode := .qc5v, qc := true, lineDp := ⟨true, false, true⟩,
      lineDm := ⟨true, false, false⟩, timer := 0, ir := 0x10000000, reqMode := .qc5v, lnk := false,
      readBit := false, respValid := true, respStatus := .ok, respData := 2 }

/-- R161 (a), R281: a REQUEST that passes the checks: after `Ts + 5` ticks both lines are driven at the pair of
the table, `mode` is the requested mode, and `hs`, `qc` are as before. -/
def Obligations.RequestDrivesItsPair : Prop :=
  ∀ (s : State) (m : Mode) (p q : Level) (w : CmdWord) (ts n : Nat), ts = waitTicks s.cfg.tSettle →
    n = ts + 5 → requestTable m = some (p, q) → w.toNat = 0x20000000 + m.code.toNat →
    s.AtStep .ready → s.qc = true → NoReset n s → Offers s 0 w →
    ticks n s = .next { ticked n s with
      mode := m, lineDp := ⟨true, p.lowPin, p.highPin⟩,
      lineDm := ⟨true, q.lowPin, q.highPin⟩, timer := 0, ir := w, reqMode := m, lnk := false,
      respValid := true, respStatus := .ok, respData := m.code }

/-- R161 (c): the same REQUEST twice in a row, the second offered in the tick that shows the first's response,
leaves pins, mode, `qc` and `hs` as one leaves them. -/
def Obligations.RequestTwiceIsRequestOnce : Prop :=
  ∀ (s : State) (m : Mode) (w : CmdWord) (n : Nat), n = waitTicks s.cfg.tSettle + 5 →
    m.requestable = true → w.toNat = 0x20000000 + m.code.toNat →
    s.AtStep .ready → s.qc = true → NoReset (n + n) s → Offers s 0 w → Offers s n w →
    ∃ t u : State, ticks n s = .next t ∧ ticks (n + n) s = .next u ∧
      u.lineDp = t.lineDp ∧ u.lineDm = t.lineDm ∧ u.mode = t.mode ∧ u.qc = t.qc ∧ u.hs = t.hs ∧
      u.outputs = t.outputs

/-- R161 (b), R274, R282: on the way of a REQUEST, D+ is in Listen in the states 2 to Ts + 3 and D- in the
states 3 to Ts + 4, also when the requested mode is the current one. -/
def Obligations.RequestFloatsBothLines : Prop :=
  ∀ (s : State) (m : Mode) (w : CmdWord) (ts : Nat), ts = waitTicks s.cfg.tSettle →
    m.requestable = true → w.toNat = 0x20000000 + m.code.toNat →
    s.AtStep .ready → s.qc = true → NoReset (ts + 5) s → Offers s 0 w →
    ∀ j, j ≤ ts + 4 → ∃ t : State, ticks j s = .next t ∧
      (2 ≤ j → j ≤ ts + 3 → t.lineDp.symbolic = none) ∧ (3 ≤ j → t.lineDm.symbolic = none) ∧
      (j = ts + 4 → t.lineDp.symbolic = (requestTable m).map (·.1)) ∧ t.respValid = (j == 0 && s.respValid)

/-- R282, the table of BEGIN, row by row: the levels on the pins in the states 0, 1, 2, … of a BEGIN whose first
sample reads high, up to state Tg + 2 Ts + 7 whatever the second sample reads, and up to the response in state
Tg + 3 Ts + 11 when it reads low. `mode` keeps its value until the command's last state and `qc` until the second
sample (R136). -/
def Obligations.BeginHoldsEachLevel : Prop :=
  ∀ (s : State) (ts tg : Nat), ts = waitTicks s.cfg.tSettle → tg = waitTicks s.cfg.tGlitch →
    s.AtStep .ready → Offers s 0 0x10000000 → (s.inputAt (ts + 3)).extDmH = true →
    (∀ j, j ≤ tg + 2 * ts + 7 → NoReset j s → ∃ t : State, ticks j s = .next t ∧
      (j ≤ 2 → t.lineDp.symbolic = s.lineDp.symbolic ∧
        (s.lineDm.symbolic = none → t.lineDm.symbolic = none)) ∧
      (2 ≤ j → t.lineDm.symbolic = none) ∧
      (3 ≤ j → j ≤ ts + 4 → t.lineDp.symbolic = some .mv3300) ∧
      (ts + 5 ≤ j → j ≤ ts + tg + 5 → t.lineDp.symbolic = some .mv600) ∧
      (ts + tg + 6 ≤ j → t.lineDp.symbolic = some .mv3300) ∧
      (j ≤ tg + 2 * ts + 6 → t.mode = s.mode ∧ t.qc = s.qc)) ∧
    ((s.inputAt (tg + 2 * ts + 6)).extDmH = false →
      ∀ j, tg + 2 * ts + 7 ≤ j → j ≤ tg + 3 * ts + 11 → NoReset j s → ∃ t : State, ticks j s = .next t ∧
        (j = tg + 2 * ts + 7 → t.lineDp.symbolic = some .mv3300 ∧ t.lineDm.symbolic = none) ∧
        (tg + 2 * ts + 8 ≤ j → j ≤ tg + 3 * ts + 9 →
          t.lineDp.symbolic = none ∧ t.lineDm.symbolic = none) ∧
        (j = tg + 3 * ts + 10 → t.lineDp.symbolic = some .mv600 ∧ t.lineDm.symbolic = none) ∧
        (j = tg + 3 * ts + 11 → t.lineDp.symbolic = some .mv600 ∧ t.lineDm.symbolic = some .v0) ∧
        (t.respValid = true ↔ j = tg + 3 * ts + 11) ∧ (j ≤ tg + 3 * ts + 10 → t.mode = s.mode) ∧ t.qc = true)

/-- R180 to R186, R281: GETMODE: after `Ta + 4` ticks the response is the decoded mode of the two channels, read
one tick apart; no negotiator register and no line has changed. That a
tick's ADC input holds the readings of all sixteen channels is the model's own (log 12). -/
def Obligations.GetmodeAnswersTheTwoReadings : Prop :=
  ∀ (s : State) (a b : Chan) (w : CmdWord) (dp dm : Mv) (n : Nat), n = waitTicks s.cfg.tAdcSettle + 4 →
    w.toNat = 0x40000000 + a.toNat * 16 + b.toNat → s.AtStep .ready → NoReset n s → Offers s 0 w →
    (s.inputAt 1).adc.get a.toFin = dp → (s.inputAt 2).adc.get b.toFin = dm →
    ticks n s = .next { ticked n s with
      ir := w, adcDp := dp, adcDm := dm, timer := 0, respValid := true, respStatus := .ok,
      respData := Mode.code (decodeVoltages s.cfg dp dm),
      diag := if decodeVoltages s.cfg dp dm = .generic5v then .ambig else .ok }

/-- R215: every running command completes: from every state of the invariant that is busy, with no reset, a
response is shown within a bound that depends only on the timer and the parameters. -/
def Obligations.EveryRunningCommandCompletes : Prop :=
  ∀ (s : State) (bound : Nat),
    bound = s.timer.toNat + waitTicks s.cfg.tGlitch + 3 * waitTicks s.cfg.tSettle +
      waitTicks s.cfg.tAdcSettle + 11 →
    s.Inv → s.seq ≠ .ready → NoReset bound s →
    ∃ (k : Nat) (t : State), k ≤ bound ∧ ticks k s = .next t ∧ t.seq = .ready ∧ t.respValid = true

/-! ### What cannot be seen, and what cannot interfere -/

/-- R26, R25, R217: the `l`, `h` bits of a line in Listen and `est_mv` are never observed: two states that
differ only in them show the same outputs, and stay so after any step. -/
def Obligations.HiddenBitsAreNeverObserved : Prop :=
  ∀ s t : State, s.visible = t.visible →
    s.outputs = t.outputs ∧
    (∀ s', step s = .next s' → ∃ t', step t = .next t' ∧ s'.visible = t'.visible)

/-- R247: instances share nothing: the system takes a step exactly when each instance does, to the instances'
next states, and every instance keeps its parameters and its wiring (R35). They differ only in the pins and ADC
channels they are wired to: that is what `wellFormed` says, a system built by reset has it for all parameters and
all distinct pins, and every tick keeps it. What a system answers when an instance
has no step, and that unlisted inputs are free values indexed by wiring and tick, are the model's own (log 15). -/
def Obligations.InstancesAreIndependent : Prop :=
  ∀ y z : System,
    (systemStep y = .next z ↔ List.Forall₂ (fun s t => step s = .next t) y.instances z.instances) ∧
    (systemStep y = .next z → z.instances.map (·.cfg) = y.instances.map (·.cfg)) ∧
    (y.wellFormed = true ↔
      (∃ c : Config, ∀ s ∈ y.instances, s.cfg = { c with wiring := s.cfg.wiring }) ∧
        (y.instances.map (·.cfg.wiring)).Nodup) ∧
    (∀ (c : Config) (w : Nat) (ws : List Nat), (w :: ws).Nodup →
      (System.reset c w ws).wellFormed = true ∧
        (System.reset c w ws).instances =
          (w :: ws).map fun p => { State.reset with cfg := { c with wiring := p } }) ∧
    (y.wellFormed = true → systemStep y = .next z → z.wellFormed = true)
end

