-- ==== Sys2Proof/Laws/Decode.lean ====
section
/-! SUPPORT. Small lemmas about codes and the decoders. -/

namespace Sys2Proof

@[simp] theorem ofIndex_index (x : Line) : Line.ofIndex x.index = x := by
  cases x <;> rfl

@[simp] theorem ofCode_code (level : Level) : Level.ofCode level.code = level := by
  cases level <;> rfl

@[simp] theorem index_ofIndex (b : BitVec 1) : (Line.ofIndex b).index = b := by
  revert b; decide

@[simp] theorem code_ofCode (c : BitVec 2) : (Level.ofCode c).code = c := by
  revert c; decide

@[simp] theorem decode_cmd (w : CmdWord) : decode (.cmd w) = decodeCmd w := rfl
@[simp] theorem decode_uop (u : UopWord) : decode (.uop u) = decodeUop u := rfl

/-- The decoded instruction of a row of the table is the decoder's answer on that row's word. -/
theorem decodeTableWord_eq_some {nbits w : Nat} {i : Instr} :
    decodeTableWord nbits w = some i ↔ decode (tableWord nbits w) = .ok i := by
  unfold decodeTableWord
  cases decode (tableWord nbits w) <;> simp

end Sys2Proof
end

