-- ==== Sys2Proof/Laws/State.lean ====
section
/-! SUPPORT. One lemma per field per named update of the state, true by unfolding the update once, so that
no later proof unfolds a record update. -/

namespace Sys2Proof.Machine

section Goto
@[simp] theorem goto_hs (q : Seq) (s : State) : (goto q s).hs = s.hs := rfl
@[simp] theorem goto_mode (q : Seq) (s : State) : (goto q s).mode = s.mode := rfl
@[simp] theorem goto_qc (q : Seq) (s : State) : (goto q s).qc = s.qc := rfl
@[simp] theorem goto_seq (q : Seq) (s : State) : (goto q s).seq = q := rfl
@[simp] theorem goto_estMv (q : Seq) (s : State) : (goto q s).estMv = s.estMv := rfl
@[simp] theorem goto_lineDp (q : Seq) (s : State) : (goto q s).lineDp = s.lineDp := rfl
@[simp] theorem goto_lineDm (q : Seq) (s : State) : (goto q s).lineDm = s.lineDm := rfl
@[simp] theorem goto_timer (q : Seq) (s : State) : (goto q s).timer = s.timer := rfl
@[simp] theorem goto_ir (q : Seq) (s : State) : (goto q s).ir = s.ir := rfl
@[simp] theorem goto_reqMode (q : Seq) (s : State) : (goto q s).reqMode = s.reqMode := rfl
@[simp] theorem goto_lnk (q : Seq) (s : State) : (goto q s).lnk = s.lnk := rfl
@[simp] theorem goto_adcDp (q : Seq) (s : State) : (goto q s).adcDp = s.adcDp := rfl
@[simp] theorem goto_adcDm (q : Seq) (s : State) : (goto q s).adcDm = s.adcDm := rfl
@[simp] theorem goto_respValid (q : Seq) (s : State) : (goto q s).respValid = s.respValid := rfl
@[simp] theorem goto_respStatus (q : Seq) (s : State) : (goto q s).respStatus = s.respStatus := rfl
@[simp] theorem goto_respData (q : Seq) (s : State) : (goto q s).respData = s.respData := rfl
@[simp] theorem goto_diag (q : Seq) (s : State) : (goto q s).diag = s.diag := rfl
@[simp] theorem goto_cfg (q : Seq) (s : State) : (goto q s).cfg = s.cfg := rfl
@[simp] theorem goto_inputs (q : Seq) (s : State) : (goto q s).inputs = s.inputs := rfl
@[simp] theorem goto_tick (q : Seq) (s : State) : (goto q s).tick = s.tick := rfl
@[simp] theorem goto_readBit (q : Seq) (s : State) : (goto q s).readBit = s.readBit := rfl
@[simp] theorem goto_bench (q : Seq) (s : State) : (goto q s).bench = s.bench := rfl
end Goto

section Loadtimer
@[simp] theorem loadTimer_hs (n : Ticks) (s : State) : (loadTimer n s).hs = s.hs := rfl
@[simp] theorem loadTimer_mode (n : Ticks) (s : State) : (loadTimer n s).mode = s.mode := rfl
@[simp] theorem loadTimer_qc (n : Ticks) (s : State) : (loadTimer n s).qc = s.qc := rfl
@[simp] theorem loadTimer_seq (n : Ticks) (s : State) : (loadTimer n s).seq = s.seq := rfl
@[simp] theorem loadTimer_estMv (n : Ticks) (s : State) : (loadTimer n s).estMv = s.estMv := rfl
@[simp] theorem loadTimer_lineDp (n : Ticks) (s : State) : (loadTimer n s).lineDp = s.lineDp := rfl
@[simp] theorem loadTimer_lineDm (n : Ticks) (s : State) : (loadTimer n s).lineDm = s.lineDm := rfl
@[simp] theorem loadTimer_timer (n : Ticks) (s : State) : (loadTimer n s).timer = n := rfl
@[simp] theorem loadTimer_ir (n : Ticks) (s : State) : (loadTimer n s).ir = s.ir := rfl
@[simp] theorem loadTimer_reqMode (n : Ticks) (s : State) : (loadTimer n s).reqMode = s.reqMode := rfl
@[simp] theorem loadTimer_lnk (n : Ticks) (s : State) : (loadTimer n s).lnk = s.lnk := rfl
@[simp] theorem loadTimer_adcDp (n : Ticks) (s : State) : (loadTimer n s).adcDp = s.adcDp := rfl
@[simp] theorem loadTimer_adcDm (n : Ticks) (s : State) : (loadTimer n s).adcDm = s.adcDm := rfl
@[simp] theorem loadTimer_respValid (n : Ticks) (s : State) : (loadTimer n s).respValid = s.respValid := rfl
@[simp] theorem loadTimer_respStatus (n : Ticks) (s : State) : (loadTimer n s).respStatus = s.respStatus := rfl
@[simp] theorem loadTimer_respData (n : Ticks) (s : State) : (loadTimer n s).respData = s.respData := rfl
@[simp] theorem loadTimer_diag (n : Ticks) (s : State) : (loadTimer n s).diag = s.diag := rfl
@[simp] theorem loadTimer_cfg (n : Ticks) (s : State) : (loadTimer n s).cfg = s.cfg := rfl
@[simp] theorem loadTimer_inputs (n : Ticks) (s : State) : (loadTimer n s).inputs = s.inputs := rfl
@[simp] theorem loadTimer_tick (n : Ticks) (s : State) : (loadTimer n s).tick = s.tick := rfl
@[simp] theorem loadTimer_readBit (n : Ticks) (s : State) : (loadTimer n s).readBit = s.readBit := rfl
@[simp] theorem loadTimer_bench (n : Ticks) (s : State) : (loadTimer n s).bench = s.bench := rfl
end Loadtimer

section Latchcommand
@[simp] theorem latchCommand_hs (w : CmdWord) (s : State) : (latchCommand w s).hs = s.hs := rfl
@[simp] theorem latchCommand_mode (w : CmdWord) (s : State) : (latchCommand w s).mode = s.mode := rfl
@[simp] theorem latchCommand_qc (w : CmdWord) (s : State) : (latchCommand w s).qc = s.qc := rfl
@[simp] theorem latchCommand_seq (w : CmdWord) (s : State) : (latchCommand w s).seq = s.seq := rfl
@[simp] theorem latchCommand_estMv (w : CmdWord) (s : State) : (latchCommand w s).estMv = s.estMv := rfl
@[simp] theorem latchCommand_lineDp (w : CmdWord) (s : State) : (latchCommand w s).lineDp = s.lineDp := rfl
@[simp] theorem latchCommand_lineDm (w : CmdWord) (s : State) : (latchCommand w s).lineDm = s.lineDm := rfl
@[simp] theorem latchCommand_timer (w : CmdWord) (s : State) : (latchCommand w s).timer = s.timer := rfl
@[simp] theorem latchCommand_ir (w : CmdWord) (s : State) : (latchCommand w s).ir = w := rfl
@[simp] theorem latchCommand_reqMode (w : CmdWord) (s : State) : (latchCommand w s).reqMode = s.reqMode := rfl
@[simp] theorem latchCommand_lnk (w : CmdWord) (s : State) : (latchCommand w s).lnk = s.lnk := rfl
@[simp] theorem latchCommand_adcDp (w : CmdWord) (s : State) : (latchCommand w s).adcDp = s.adcDp := rfl
@[simp] theorem latchCommand_adcDm (w : CmdWord) (s : State) : (latchCommand w s).adcDm = s.adcDm := rfl
@[simp] theorem latchCommand_respValid (w : CmdWord) (s : State) : (latchCommand w s).respValid = s.respValid := rfl
@[simp] theorem latchCommand_respStatus (w : CmdWord) (s : State) : (latchCommand w s).respStatus = s.respStatus := rfl
@[simp] theorem latchCommand_respData (w : CmdWord) (s : State) : (latchCommand w s).respData = s.respData := rfl
@[simp] theorem latchCommand_diag (w : CmdWord) (s : State) : (latchCommand w s).diag = s.diag := rfl
@[simp] theorem latchCommand_cfg (w : CmdWord) (s : State) : (latchCommand w s).cfg = s.cfg := rfl
@[simp] theorem latchCommand_inputs (w : CmdWord) (s : State) : (latchCommand w s).inputs = s.inputs := rfl
@[simp] theorem latchCommand_tick (w : CmdWord) (s : State) : (latchCommand w s).tick = s.tick := rfl
@[simp] theorem latchCommand_readBit (w : CmdWord) (s : State) : (latchCommand w s).readBit = s.readBit := rfl
@[simp] theorem latchCommand_bench (w : CmdWord) (s : State) : (latchCommand w s).bench = s.bench := rfl
end Latchcommand

section Deliverread
@[simp] theorem deliverRead_hs (b : Bool) (s : State) : (deliverRead b s).hs = s.hs := rfl
@[simp] theorem deliverRead_mode (b : Bool) (s : State) : (deliverRead b s).mode = s.mode := rfl
@[simp] theorem deliverRead_qc (b : Bool) (s : State) : (deliverRead b s).qc = s.qc := rfl
@[simp] theorem deliverRead_seq (b : Bool) (s : State) : (deliverRead b s).seq = s.seq := rfl
@[simp] theorem deliverRead_estMv (b : Bool) (s : State) : (deliverRead b s).estMv = s.estMv := rfl
@[simp] theorem deliverRead_lineDp (b : Bool) (s : State) : (deliverRead b s).lineDp = s.lineDp := rfl
@[simp] theorem deliverRead_lineDm (b : Bool) (s : State) : (deliverRead b s).lineDm = s.lineDm := rfl
@[simp] theorem deliverRead_timer (b : Bool) (s : State) : (deliverRead b s).timer = s.timer := rfl
@[simp] theorem deliverRead_ir (b : Bool) (s : State) : (deliverRead b s).ir = s.ir := rfl
@[simp] theorem deliverRead_reqMode (b : Bool) (s : State) : (deliverRead b s).reqMode = s.reqMode := rfl
@[simp] theorem deliverRead_lnk (b : Bool) (s : State) : (deliverRead b s).lnk = s.lnk := rfl
@[simp] theorem deliverRead_adcDp (b : Bool) (s : State) : (deliverRead b s).adcDp = s.adcDp := rfl
@[simp] theorem deliverRead_adcDm (b : Bool) (s : State) : (deliverRead b s).adcDm = s.adcDm := rfl
@[simp] theorem deliverRead_respValid (b : Bool) (s : State) : (deliverRead b s).respValid = s.respValid := rfl
@[simp] theorem deliverRead_respStatus (b : Bool) (s : State) : (deliverRead b s).respStatus = s.respStatus := rfl
@[simp] theorem deliverRead_respData (b : Bool) (s : State) : (deliverRead b s).respData = s.respData := rfl
@[simp] theorem deliverRead_diag (b : Bool) (s : State) : (deliverRead b s).diag = s.diag := rfl
@[simp] theorem deliverRead_cfg (b : Bool) (s : State) : (deliverRead b s).cfg = s.cfg := rfl
@[simp] theorem deliverRead_inputs (b : Bool) (s : State) : (deliverRead b s).inputs = s.inputs := rfl
@[simp] theorem deliverRead_tick (b : Bool) (s : State) : (deliverRead b s).tick = s.tick := rfl
@[simp] theorem deliverRead_readBit (b : Bool) (s : State) : (deliverRead b s).readBit = b := rfl
@[simp] theorem deliverRead_bench (b : Bool) (s : State) : (deliverRead b s).bench = s.bench := rfl
end Deliverread

section Complete
@[simp] theorem complete_hs (st : Cond) (d : BitVec 3) (s : State) : (complete st d s).hs = s.hs := rfl
@[simp] theorem complete_mode (st : Cond) (d : BitVec 3) (s : State) : (complete st d s).mode = s.mode := rfl
@[simp] theorem complete_qc (st : Cond) (d : BitVec 3) (s : State) : (complete st d s).qc = s.qc := rfl
@[simp] theorem complete_seq (st : Cond) (d : BitVec 3) (s : State) : (complete st d s).seq = .ready := rfl
@[simp] theorem complete_estMv (st : Cond) (d : BitVec 3) (s : State) : (complete st d s).estMv = s.estMv := rfl
@[simp] theorem complete_lineDp (st : Cond) (d : BitVec 3) (s : State) : (complete st d s).lineDp = s.lineDp := rfl
@[simp] theorem complete_lineDm (st : Cond) (d : BitVec 3) (s : State) : (complete st d s).lineDm = s.lineDm := rfl
@[simp] theorem complete_timer (st : Cond) (d : BitVec 3) (s : State) : (complete st d s).timer = s.timer := rfl
@[simp] theorem complete_ir (st : Cond) (d : BitVec 3) (s : State) : (complete st d s).ir = s.ir := rfl
@[simp] theorem complete_reqMode (st : Cond) (d : BitVec 3) (s : State) : (complete st d s).reqMode = s.reqMode := rfl
@[simp] theorem complete_lnk (st : Cond) (d : BitVec 3) (s : State) : (complete st d s).lnk = s.lnk := rfl
@[simp] theorem complete_adcDp (st : Cond) (d : BitVec 3) (s : State) : (complete st d s).adcDp = s.adcDp := rfl
@[simp] theorem complete_adcDm (st : Cond) (d : BitVec 3) (s : State) : (complete st d s).adcDm = s.adcDm := rfl
@[simp] theorem complete_respValid (st : Cond) (d : BitVec 3) (s : State) : (complete st d s).respValid = true := rfl
@[simp] theorem complete_respStatus (st : Cond) (d : BitVec 3) (s : State) : (complete st d s).respStatus = st := rfl
@[simp] theorem complete_respData (st : Cond) (d : BitVec 3) (s : State) : (complete st d s).respData = d := rfl
@[simp] theorem complete_diag (st : Cond) (d : BitVec 3) (s : State) : (complete st d s).diag = s.diag := rfl
@[simp] theorem complete_cfg (st : Cond) (d : BitVec 3) (s : State) : (complete st d s).cfg = s.cfg := rfl
@[simp] theorem complete_inputs (st : Cond) (d : BitVec 3) (s : State) : (complete st d s).inputs = s.inputs := rfl
@[simp] theorem complete_tick (st : Cond) (d : BitVec 3) (s : State) : (complete st d s).tick = s.tick := rfl
@[simp] theorem complete_readBit (st : Cond) (d : BitVec 3) (s : State) : (complete st d s).readBit = s.readBit := rfl
@[simp] theorem complete_bench (st : Cond) (d : BitVec 3) (s : State) : (complete st d s).bench = s.bench := rfl
end Complete

section Raise
@[simp] theorem raise_hs (e : Cond) (s : State) : (raise e s).hs = s.hs := rfl
@[simp] theorem raise_mode (e : Cond) (s : State) : (raise e s).mode = s.mode := rfl
@[simp] theorem raise_qc (e : Cond) (s : State) : (raise e s).qc = s.qc := rfl
@[simp] theorem raise_seq (e : Cond) (s : State) : (raise e s).seq = .ready := rfl
@[simp] theorem raise_estMv (e : Cond) (s : State) : (raise e s).estMv = s.estMv := rfl
@[simp] theorem raise_lineDp (e : Cond) (s : State) : (raise e s).lineDp = s.lineDp := rfl
@[simp] theorem raise_lineDm (e : Cond) (s : State) : (raise e s).lineDm = s.lineDm := rfl
@[simp] theorem raise_timer (e : Cond) (s : State) : (raise e s).timer = s.timer := rfl
@[simp] theorem raise_ir (e : Cond) (s : State) : (raise e s).ir = s.ir := rfl
@[simp] theorem raise_reqMode (e : Cond) (s : State) : (raise e s).reqMode = s.reqMode := rfl
@[simp] theorem raise_lnk (e : Cond) (s : State) : (raise e s).lnk = s.lnk := rfl
@[simp] theorem raise_adcDp (e : Cond) (s : State) : (raise e s).adcDp = s.adcDp := rfl
@[simp] theorem raise_adcDm (e : Cond) (s : State) : (raise e s).adcDm = s.adcDm := rfl
@[simp] theorem raise_respValid (e : Cond) (s : State) : (raise e s).respValid = true := rfl
@[simp] theorem raise_respStatus (e : Cond) (s : State) : (raise e s).respStatus = e := rfl
@[simp] theorem raise_respData (e : Cond) (s : State) : (raise e s).respData = s.mode.code := rfl
@[simp] theorem raise_diag (e : Cond) (s : State) : (raise e s).diag = e := rfl
@[simp] theorem raise_cfg (e : Cond) (s : State) : (raise e s).cfg = s.cfg := rfl
@[simp] theorem raise_inputs (e : Cond) (s : State) : (raise e s).inputs = s.inputs := rfl
@[simp] theorem raise_tick (e : Cond) (s : State) : (raise e s).tick = s.tick := rfl
@[simp] theorem raise_readBit (e : Cond) (s : State) : (raise e s).readBit = s.readBit := rfl
@[simp] theorem raise_bench (e : Cond) (s : State) : (raise e s).bench = s.bench := rfl
end Raise

section Completeclass
@[simp] theorem completeClass_hs (r : Mode) (s : State) : (completeClass r s).hs = s.hs := rfl
@[simp] theorem completeClass_mode (r : Mode) (s : State) : (completeClass r s).mode = s.mode := rfl
@[simp] theorem completeClass_qc (r : Mode) (s : State) : (completeClass r s).qc = s.qc := rfl
@[simp] theorem completeClass_seq (r : Mode) (s : State) : (completeClass r s).seq = .ready := rfl
@[simp] theorem completeClass_estMv (r : Mode) (s : State) : (completeClass r s).estMv = s.estMv := rfl
@[simp] theorem completeClass_lineDp (r : Mode) (s : State) : (completeClass r s).lineDp = s.lineDp := rfl
@[simp] theorem completeClass_lineDm (r : Mode) (s : State) : (completeClass r s).lineDm = s.lineDm := rfl
@[simp] theorem completeClass_timer (r : Mode) (s : State) : (completeClass r s).timer = s.timer := rfl
@[simp] theorem completeClass_ir (r : Mode) (s : State) : (completeClass r s).ir = s.ir := rfl
@[simp] theorem completeClass_reqMode (r : Mode) (s : State) : (completeClass r s).reqMode = s.reqMode := rfl
@[simp] theorem completeClass_lnk (r : Mode) (s : State) : (completeClass r s).lnk = s.lnk := rfl
@[simp] theorem completeClass_adcDp (r : Mode) (s : State) : (completeClass r s).adcDp = s.adcDp := rfl
@[simp] theorem completeClass_adcDm (r : Mode) (s : State) : (completeClass r s).adcDm = s.adcDm := rfl
@[simp] theorem completeClass_respValid (r : Mode) (s : State) : (completeClass r s).respValid = true := rfl
@[simp] theorem completeClass_respStatus (r : Mode) (s : State) : (completeClass r s).respStatus = .ok := rfl
@[simp] theorem completeClass_respData (r : Mode) (s : State) : (completeClass r s).respData = r.code := rfl
@[simp] theorem completeClass_diag (r : Mode) (s : State) : (completeClass r s).diag = classDiag r s.diag := rfl
@[simp] theorem completeClass_cfg (r : Mode) (s : State) : (completeClass r s).cfg = s.cfg := rfl
@[simp] theorem completeClass_inputs (r : Mode) (s : State) : (completeClass r s).inputs = s.inputs := rfl
@[simp] theorem completeClass_tick (r : Mode) (s : State) : (completeClass r s).tick = s.tick := rfl
@[simp] theorem completeClass_readBit (r : Mode) (s : State) : (completeClass r s).readBit = s.readBit := rfl
@[simp] theorem completeClass_bench (r : Mode) (s : State) : (completeClass r s).bench = s.bench := rfl
end Completeclass

section Fallback
@[simp] theorem fallBack_hs (s : State) : (fallBack s).hs = .fallback := rfl
@[simp] theorem fallBack_mode (s : State) : (fallBack s).mode = .generic5v := rfl
@[simp] theorem fallBack_qc (s : State) : (fallBack s).qc = false := rfl
@[simp] theorem fallBack_seq (s : State) : (fallBack s).seq = .ready := rfl
@[simp] theorem fallBack_estMv (s : State) : (fallBack s).estMv = s.estMv := rfl
@[simp] theorem fallBack_lineDp (s : State) : (fallBack s).lineDp = s.lineDp := rfl
@[simp] theorem fallBack_lineDm (s : State) : (fallBack s).lineDm = s.lineDm := rfl
@[simp] theorem fallBack_timer (s : State) : (fallBack s).timer = s.timer := rfl
@[simp] theorem fallBack_ir (s : State) : (fallBack s).ir = s.ir := rfl
@[simp] theorem fallBack_reqMode (s : State) : (fallBack s).reqMode = s.reqMode := rfl
@[simp] theorem fallBack_lnk (s : State) : (fallBack s).lnk = s.lnk := rfl
@[simp] theorem fallBack_adcDp (s : State) : (fallBack s).adcDp = s.adcDp := rfl
@[simp] theorem fallBack_adcDm (s : State) : (fallBack s).adcDm = s.adcDm := rfl
@[simp] theorem fallBack_respValid (s : State) : (fallBack s).respValid = true := rfl
@[simp] theorem fallBack_respStatus (s : State) : (fallBack s).respStatus = .ok := rfl
@[simp] theorem fallBack_respData (s : State) : (fallBack s).respData = Mode.code .generic5v := rfl
@[simp] theorem fallBack_diag (s : State) : (fallBack s).diag = s.diag := rfl
@[simp] theorem fallBack_cfg (s : State) : (fallBack s).cfg = s.cfg := rfl
@[simp] theorem fallBack_inputs (s : State) : (fallBack s).inputs = s.inputs := rfl
@[simp] theorem fallBack_tick (s : State) : (fallBack s).tick = s.tick := rfl
@[simp] theorem fallBack_readBit (s : State) : (fallBack s).readBit = s.readBit := rfl
@[simp] theorem fallBack_bench (s : State) : (fallBack s).bench = s.bench := rfl
end Fallback

section Tickstart
@[simp] theorem tickStart_hs (s : State) : (tickStart s).hs = s.hs := rfl
@[simp] theorem tickStart_mode (s : State) : (tickStart s).mode = s.mode := rfl
@[simp] theorem tickStart_qc (s : State) : (tickStart s).qc = s.qc := rfl
@[simp] theorem tickStart_seq (s : State) : (tickStart s).seq = s.seq := rfl
@[simp] theorem tickStart_estMv (s : State) : (tickStart s).estMv = s.estMv := rfl
@[simp] theorem tickStart_lineDp (s : State) : (tickStart s).lineDp = s.lineDp := rfl
@[simp] theorem tickStart_lineDm (s : State) : (tickStart s).lineDm = s.lineDm := rfl
@[simp] theorem tickStart_timer (s : State) : (tickStart s).timer = s.timer := rfl
@[simp] theorem tickStart_ir (s : State) : (tickStart s).ir = s.ir := rfl
@[simp] theorem tickStart_reqMode (s : State) : (tickStart s).reqMode = s.reqMode := rfl
@[simp] theorem tickStart_lnk (s : State) : (tickStart s).lnk = s.lnk := rfl
@[simp] theorem tickStart_adcDp (s : State) : (tickStart s).adcDp = s.adcDp := rfl
@[simp] theorem tickStart_adcDm (s : State) : (tickStart s).adcDm = s.adcDm := rfl
@[simp] theorem tickStart_respValid (s : State) : (tickStart s).respValid = false := rfl
@[simp] theorem tickStart_respStatus (s : State) : (tickStart s).respStatus = s.respStatus := rfl
@[simp] theorem tickStart_respData (s : State) : (tickStart s).respData = s.respData := rfl
@[simp] theorem tickStart_diag (s : State) : (tickStart s).diag = .ok := rfl
@[simp] theorem tickStart_cfg (s : State) : (tickStart s).cfg = s.cfg := rfl
@[simp] theorem tickStart_inputs (s : State) : (tickStart s).inputs = s.inputs := rfl
@[simp] theorem tickStart_tick (s : State) : (tickStart s).tick = s.tick := rfl
@[simp] theorem tickStart_readBit (s : State) : (tickStart s).readBit = s.readBit := rfl
@[simp] theorem tickStart_bench (s : State) : (tickStart s).bench = s.bench := rfl
end Tickstart

section Tickend
@[simp] theorem tickEnd_hs (s : State) : (tickEnd s).hs = s.hs := rfl
@[simp] theorem tickEnd_mode (s : State) : (tickEnd s).mode = s.mode := rfl
@[simp] theorem tickEnd_qc (s : State) : (tickEnd s).qc = s.qc := rfl
@[simp] theorem tickEnd_seq (s : State) : (tickEnd s).seq = s.seq := rfl
@[simp] theorem tickEnd_estMv (s : State) : (tickEnd s).estMv = s.estMv := rfl
@[simp] theorem tickEnd_lineDp (s : State) : (tickEnd s).lineDp = s.lineDp := rfl
@[simp] theorem tickEnd_lineDm (s : State) : (tickEnd s).lineDm = s.lineDm := rfl
@[simp] theorem tickEnd_timer (s : State) : (tickEnd s).timer = s.timer := rfl
@[simp] theorem tickEnd_ir (s : State) : (tickEnd s).ir = s.ir := rfl
@[simp] theorem tickEnd_reqMode (s : State) : (tickEnd s).reqMode = s.reqMode := rfl
@[simp] theorem tickEnd_lnk (s : State) : (tickEnd s).lnk = s.lnk := rfl
@[simp] theorem tickEnd_adcDp (s : State) : (tickEnd s).adcDp = s.adcDp := rfl
@[simp] theorem tickEnd_adcDm (s : State) : (tickEnd s).adcDm = s.adcDm := rfl
@[simp] theorem tickEnd_respValid (s : State) : (tickEnd s).respValid = s.respValid := rfl
@[simp] theorem tickEnd_respStatus (s : State) : (tickEnd s).respStatus = s.respStatus := rfl
@[simp] theorem tickEnd_respData (s : State) : (tickEnd s).respData = s.respData := rfl
@[simp] theorem tickEnd_diag (s : State) : (tickEnd s).diag = s.diag := rfl
@[simp] theorem tickEnd_cfg (s : State) : (tickEnd s).cfg = s.cfg := rfl
@[simp] theorem tickEnd_inputs (s : State) : (tickEnd s).inputs = s.inputs.tail := rfl
@[simp] theorem tickEnd_tick (s : State) : (tickEnd s).tick = s.tick + 1 := rfl
@[simp] theorem tickEnd_readBit (s : State) : (tickEnd s).readBit = s.readBit := rfl
@[simp] theorem tickEnd_bench (s : State) : (tickEnd s).bench = s.bench := rfl
end Tickend

section SetLine
@[simp] theorem setLine_hs (x : Line) (r : LineReg) (s : State) : (s.setLine x r).hs = s.hs := by
  cases x <;> rfl
@[simp] theorem setLine_mode (x : Line) (r : LineReg) (s : State) : (s.setLine x r).mode = s.mode := by
  cases x <;> rfl
@[simp] theorem setLine_qc (x : Line) (r : LineReg) (s : State) : (s.setLine x r).qc = s.qc := by
  cases x <;> rfl
@[simp] theorem setLine_seq (x : Line) (r : LineReg) (s : State) : (s.setLine x r).seq = s.seq := by
  cases x <;> rfl
@[simp] theorem setLine_estMv (x : Line) (r : LineReg) (s : State) : (s.setLine x r).estMv = s.estMv := by
  cases x <;> rfl
@[simp] theorem setLine_timer (x : Line) (r : LineReg) (s : State) : (s.setLine x r).timer = s.timer := by
  cases x <;> rfl
@[simp] theorem setLine_ir (x : Line) (r : LineReg) (s : State) : (s.setLine x r).ir = s.ir := by
  cases x <;> rfl
@[simp] theorem setLine_reqMode (x : Line) (r : LineReg) (s : State) : (s.setLine x r).reqMode = s.reqMode := by
  cases x <;> rfl
@[simp] theorem setLine_lnk (x : Line) (r : LineReg) (s : State) : (s.setLine x r).lnk = s.lnk := by
  cases x <;> rfl
@[simp] theorem setLine_adcDp (x : Line) (r : LineReg) (s : State) : (s.setLine x r).adcDp = s.adcDp := by
  cases x <;> rfl
@[simp] theorem setLine_adcDm (x : Line) (r : LineReg) (s : State) : (s.setLine x r).adcDm = s.adcDm := by
  cases x <;> rfl
@[simp] theorem setLine_respValid (x : Line) (r : LineReg) (s : State) : (s.setLine x r).respValid = s.respValid := by
  cases x <;> rfl
@[simp] theorem setLine_respStatus (x : Line) (r : LineReg) (s : State) : (s.setLine x r).respStatus = s.respStatus := by
  cases x <;> rfl
@[simp] theorem setLine_respData (x : Line) (r : LineReg) (s : State) : (s.setLine x r).respData = s.respData := by
  cases x <;> rfl
@[simp] theorem setLine_diag (x : Line) (r : LineReg) (s : State) : (s.setLine x r).diag = s.diag := by
  cases x <;> rfl
@[simp] theorem setLine_cfg (x : Line) (r : LineReg) (s : State) : (s.setLine x r).cfg = s.cfg := by
  cases x <;> rfl
@[simp] theorem setLine_inputs (x : Line) (r : LineReg) (s : State) : (s.setLine x r).inputs = s.inputs := by
  cases x <;> rfl
@[simp] theorem setLine_tick (x : Line) (r : LineReg) (s : State) : (s.setLine x r).tick = s.tick := by
  cases x <;> rfl
@[simp] theorem setLine_readBit (x : Line) (r : LineReg) (s : State) : (s.setLine x r).readBit = s.readBit := by
  cases x <;> rfl
@[simp] theorem setLine_bench (x : Line) (r : LineReg) (s : State) : (s.setLine x r).bench = s.bench := by
  cases x <;> rfl
@[simp] theorem setLine_dp_lineDp (r : LineReg) (s : State) : (s.setLine .dp r).lineDp = r := rfl
@[simp] theorem setLine_dp_lineDm (r : LineReg) (s : State) : (s.setLine .dp r).lineDm = s.lineDm := rfl
@[simp] theorem setLine_dm_lineDm (r : LineReg) (s : State) : (s.setLine .dm r).lineDm = r := rfl
@[simp] theorem setLine_dm_lineDp (r : LineReg) (s : State) : (s.setLine .dm r).lineDp = s.lineDp := rfl
end SetLine

section LineRead
@[simp] theorem line_dp (s : State) : s.line .dp = s.lineDp := rfl
@[simp] theorem line_dm (s : State) : s.line .dm = s.lineDm := rfl

theorem line_setLine (x y : Line) (r : LineReg) (s : State) :
    (s.setLine x r).line y = if x = y then r else s.line y := by
  cases x <;> cases y <;> rfl
end LineRead

section InputRead
@[simp] theorem inputAt_zero (s : State) : s.inputAt 0 = s.input := rfl

theorem inputAt_congr {s t : State} (hi : t.inputs = s.inputs) (hk : t.tick = s.tick)
    (hc : t.cfg = s.cfg) (k : Nat) :
    t.inputAt k = s.inputAt k := by
  simp only [State.inputAt, hi, hk, hc]

/-- The inputs a state saw `k + 1` ticks ahead are the ones its next state sees `k` ticks ahead. -/
theorem inputAt_tickEnd (s : State) (k : Nat) : (tickEnd s).inputAt k = s.inputAt (k + 1) := by
  simp only [State.inputAt, tickEnd_inputs, tickEnd_tick]
  cases s.inputs with
  | nil => simp [Nat.add_assoc, Nat.add_comm 1 k]
  | cons i rest => simp [Nat.add_assoc, Nat.add_comm 1 k]

@[simp] theorem input_tickStart (s : State) : (tickStart s).input = s.input := rfl
@[simp] theorem input_latchCommand (w : CmdWord) (s : State) : (latchCommand w s).input = s.input := rfl
@[simp] theorem input_setLine (x : Line) (r : LineReg) (s : State) : (s.setLine x r).input = s.input := by
  cases x <;> rfl
@[simp] theorem input_setInput (s : State) (i : TickInput) : (s.setInput i).input = i := rfl
end InputRead

end Sys2Proof.Machine
end

