-- ==== Sys2Proof/Laws/Ops.lean ====
section
/-! SUPPORT. One lemma per shared operation that says what it can do. -/

namespace Sys2Proof.Machine

@[simp] theorem andThen_next (s : State) (k : State → Result) : andThen (.next s) k = k s := rfl
@[simp] theorem andThen_refused (r : Refusal) (k : State → Result) : andThen (.refused r) k = .refused r := rfl

/-- A sequence answers a next state exactly when both parts do. -/
theorem andThen_eq_next {o : Result} {k : State → Result} {t : State} :
    andThen o k = .next t ↔ ∃ m, o = .next m ∧ k m = .next t := by
  cases o <;> simp [andThen]

/-- Running instructions in two parts. -/
theorem execAll_append (xs ys : List Instr) (s : State) :
    execAll (xs ++ ys) s = andThen (execAll xs s) (execAll ys) := by
  induction xs generalizing s with
  | nil => rfl
  | cons i rest ih =>
    simp only [List.cons_append, execAll]
    cases exec i s with
    | next m => simpa using ih m
    | fault f => rfl
    | refused r => rfl

/-- Running ticks in two parts. -/
theorem ticks_add (j k : Nat) (s : State) : ticks (j + k) s = andThen (ticks j s) (ticks k) := by
  induction j generalizing s with
  | zero => simp [ticks]
  | succ n ih =>
    rw [Nat.succ_add]
    simp only [ticks]
    cases step s with
    | next m => simpa using ih m
    | fault f => rfl
    | refused r => rfl

/-- A driven pin reads what is driven, whatever the outside does (R12 of 00_scope.md). -/
theorem pinIn_driven {s : State} {x : Line} (h : (s.line x).oe = true) (half : Half) :
    pinIn s x half = (s.line x).half half := by
  simp [pinIn, h]

/-- A released pin reads the outside, whatever the kept bits are (R12 of 00_scope.md). -/
theorem pinIn_released {s : State} {x : Line} (h : (s.line x).oe = false) (half : Half) :
    pinIn s x half = s.input.ext x half := by
  simp [pinIn, h]

@[simp] theorem driven_oe (level : Level) : level.driven.oe = true := rfl
@[simp] theorem driven_l (level : Level) : level.driven.l = level.lowPin := rfl
@[simp] theorem driven_h (level : Level) : level.driven.h = level.highPin := rfl
@[simp] theorem released_oe (r : LineReg) : r.released.oe = false := rfl

/-- A driven line shows its level, a released one shows Listen (R27 of 10_state.md). -/
@[simp] theorem symbolic_driven (level : Level) : level.driven.symbolic = some level := by
  cases level <;> rfl

@[simp] theorem symbolic_released (r : LineReg) : r.released.symbolic = none := rfl

/-- `SL.SET` writes one line and nothing else. -/
theorem setLevel_line (x y : Line) (level : Level) (s : State) :
    (setLevel x level s).line y = if x = y then level.driven else s.line y :=
  line_setLine x y _ s

/-- `SL.LISTEN` clears the output enable of one line and nothing else. -/
theorem setListen_line (x y : Line) (s : State) :
    (setListen x s).line y = if x = y then (s.line x).released else s.line y :=
  line_setLine x y _ s

/-- A wait tick counts down or leaves the wait; it writes `timer` and `seq` only (R210 of
45_sequencer.md). -/
theorem waitTick_cases (succ : Seq) (s : State) :
    (1 < s.timer.toNat ∧ waitTick succ s = { s with timer := s.timer - 1 }) ∨
    (s.timer.toNat ≤ 1 ∧ waitTick succ s = { s with timer := 0, seq := succ }) := by
  by_cases h : 1 < s.timer.toNat
  · exact .inl ⟨h, by simp [waitTick, h]⟩
  · exact .inr ⟨Nat.le_of_not_lt h, by simp [waitTick, h]⟩

/-- Counting down by one, on numbers. -/
theorem timer_pred_toNat {n : Ticks} (h : 1 < n.toNat) : (n - 1).toNat = n.toNat - 1 := by
  have := n.isLt
  bv_omega

/-- The checks of REQUEST, one outcome each (R152 to R155 of 42_mode_request.md). -/
theorem requestCheck_cases (qc : Bool) (marg : Marg) :
    (qc = false ∧ requestCheck qc marg = .error .cap) ∨
    (qc = true ∧ marg = 0 ∧ requestCheck qc marg = .error .logic) ∨
    (qc = true ∧ marg ≠ 0 ∧ requestedMode marg = none ∧ requestCheck qc marg = .error .invMode) ∨
    (∃ m, qc = true ∧ requestedMode marg = some m ∧ requestCheck qc marg = .ok m) := by
  cases qc with
  | false => exact .inl ⟨rfl, rfl⟩
  | true =>
    by_cases h0 : marg = 0
    · exact .inr (.inl ⟨rfl, h0, by rw [requestCheck, if_neg (by decide), if_pos h0]⟩)
    · cases hm : requestedMode marg with
      | none =>
        exact .inr (.inr (.inl ⟨rfl, h0, rfl, by rw [requestCheck, if_neg (by decide), if_neg h0, hm]⟩))
      | some m =>
        exact .inr (.inr (.inr ⟨m, rfl, rfl, by rw [requestCheck, if_neg (by decide), if_neg h0, hm]⟩))

/-- A mode REQUEST may start with has a row in the request table. -/
theorem requestedMode_requestable {marg : Marg} {m : Mode} (h : requestedMode marg = some m) :
    m.requestable = true := by
  unfold requestedMode at h
  split at h <;> try (cases h; rfl)
  split at h <;> try (cases h; rfl)
  split at h <;> try (cases h; rfl)
  split at h <;> try (cases h; rfl)
  split at h <;> cases h
  rfl

/-- A requestable mode has its two levels. -/
theorem requestable_row {m : Mode} (h : m.requestable = true) : ∃ p q, requestTable m = some (p, q) := by
  cases m <;> first | exact ⟨_, _, rfl⟩ | cases h

end Sys2Proof.Machine
end

