-- ==== Sys2Proof/Laws/PerInstr.lean ====
section
/-! SUPPORT. The family SpellsItsRow: the word of an instruction spells the row of the opcode map of R82 of
30_encoding.md that has the instruction's mnemonic. -/

namespace Sys2Proof.Laws.SpellsItsRow

/-- Some row of the opcode map has the instruction's mnemonic and is spelled by the instruction's word. -/
def Statement (i : Instr) : Prop :=
  ∃ r ∈ opcodeMap, r.mnemonic = i.mnemonic ∧ r.spelledBy (encode i) = true

theorem begin : Statement .begin := by
  unfold Statement; decide

theorem request (marg : Marg) : Statement (.request marg) := by
  refine ⟨⟨"REQUEST", .command, 0xFFFFFF00, 0x20000000⟩, by decide, rfl, ?_⟩
  have h : (2#4 ++ 0#20 ++ marg : BitVec 32) &&& 0xFFFFFF00 = 0x20000000 := by
    apply BitVec.eq_of_getLsbD_eq
    intro k hk
    simp only [BitVec.getLsbD_and, BitVec.getLsbD_append]
    interval_cases k <;> simp
  simpa [OpRow.spelledBy, encode, AnyWord.kind, AnyWord.bits] using h

theorem isqc : Statement .isqc := by
  unfold Statement; decide

theorem getmode (chDp chDm : Chan) : Statement (.getmode chDp chDm) := by
  refine ⟨⟨"GETMODE", .command, 0xFFFFFF00, 0x40000000⟩, by decide, rfl, ?_⟩
  have h : (4#4 ++ 0#20 ++ chDp ++ chDm : BitVec 32) &&& 0xFFFFFF00 = 0x40000000 := by
    apply BitVec.eq_of_getLsbD_eq
    intro k hk
    simp only [BitVec.getLsbD_and, BitVec.getLsbD_append]
    interval_cases k <;> simp
  simpa [OpRow.spelledBy, encode, AnyWord.kind, AnyWord.bits] using h

theorem mfv (dpMv dmMv : Mv) : Statement (.mfv dpMv dmMv) := by
  refine ⟨⟨"MFV", .command, 0xFF000000, 0x50000000⟩, by decide, rfl, ?_⟩
  have h : (5#4 ++ 0#4 ++ dpMv ++ dmMv : BitVec 32) &&& 0xFF000000 = 0x50000000 := by
    apply BitVec.eq_of_getLsbD_eq
    intro k hk
    simp only [BitVec.getLsbD_and, BitVec.getLsbD_append]
    interval_cases k <;> simp
  simpa [OpRow.spelledBy, encode, AnyWord.kind, AnyWord.bits] using h

theorem slSet (x : Line) (level : Level) : Statement (.slSet x level) := by
  cases x <;> cases level <;> (unfold Statement; decide)

theorem slListen (x : Line) : Statement (.slListen x) := by
  cases x <;> (unfold Statement; decide)

theorem slRdh (x : Line) : Statement (.slRdh x) := by
  cases x <;> (unfold Statement; decide)

theorem slRdl (x : Line) : Statement (.slRdl x) := by
  cases x <;> (unfold Statement; decide)

end Sys2Proof.Laws.SpellsItsRow
end

