-- ==== Sys2Proof/Laws/Step.lean ====
section
/-! SUPPORT. What a step can do: the words the sequencer issues, what each sequencer state does in its
tick, and the inversion of a step. -/

namespace Sys2Proof.Machine

section Words
theorem issue_listenDp (s : State) : issue 0b0100#4 s = .next (setListen .dp s) := rfl
theorem issue_listenDm (s : State) : issue 0b1100#4 s = .next (setListen .dm s) := rfl
theorem issue_setDp3300 (s : State) : issue 0b0011#4 s = .next (setLevel .dp .mv3300 s) := rfl
theorem issue_setDp600 (s : State) : issue 0b0001#4 s = .next (setLevel .dp .mv600 s) := rfl
theorem issue_readDmHigh (s : State) : issue 0b1101#4 s = .next (deliverRead (pinIn s .dm .h) s) := rfl

/-- The word built from a level drives that level. -/
theorem issue_setWord (x : Line) (level : Level) (s : State) :
    issue (setWord x level) s = .next (setLevel x level s) := by
  cases x <;> cases level <;> rfl
end Words

section States
variable {s : State}

theorem sequencerStep_ready (h : s.seq = .ready) : sequencerStep s = stepReady s := by
  simp [sequencerStep, issued, microStep, h]

theorem sequencerStep_bLsnDm (h : s.seq = .bLsnDm) :
    sequencerStep s = .next (stepBLsnDm (setListen .dm s)) := by
  simp [sequencerStep, issued, microStep, h, issue_listenDm]

theorem sequencerStep_bHiDp (h : s.seq = .bHiDp) :
    sequencerStep s = .next (stepBHiDp (setLevel .dp .mv3300 s)) := by
  simp [sequencerStep, issued, microStep, h, issue_setDp3300]

theorem sequencerStep_bSmp1 (h : s.seq = .bSmp1) :
    sequencerStep s = .next (stepBSmp1 (deliverRead (pinIn s .dm .h) s)) := by
  simp [sequencerStep, issued, microStep, h, issue_readDmHigh]

theorem sequencerStep_bGliDp (h : s.seq = .bGliDp) :
    sequencerStep s = .next (stepBGliDp (setLevel .dp .mv600 s)) := by
  simp [sequencerStep, issued, microStep, h, issue_setDp600]

theorem sequencerStep_bHi2Dp (h : s.seq = .bHi2Dp) :
    sequencerStep s = .next (stepBHi2Dp (setLevel .dp .mv3300 s)) := by
  simp [sequencerStep, issued, microStep, h, issue_setDp3300]

theorem sequencerStep_bSmp2 (h : s.seq = .bSmp2) :
    sequencerStep s = .next (stepBSmp2 (deliverRead (pinIn s .dm .h) s)) := by
  simp [sequencerStep, issued, microStep, h, issue_readDmHigh]

theorem sequencerStep_qLsnDp (h : s.seq = .qLsnDp) :
    sequencerStep s = .next (stepQLsnDp (setListen .dp s)) := by
  simp [sequencerStep, issued, microStep, h, issue_listenDp]

theorem sequencerStep_qLsnDm (h : s.seq = .qLsnDm) :
    sequencerStep s = .next (stepQLsnDm (setListen .dm s)) := by
  simp [sequencerStep, issued, microStep, h, issue_listenDm]

theorem sequencerStep_qSetDp (h : s.seq = .qSetDp) {p q : Level}
    (hr : requestTable s.reqMode = some (p, q)) :
    sequencerStep s = .next (stepQSetDp (setLevel .dp p s)) := by
  simp [sequencerStep, issued, microStep, h, hr, issue_setWord]

theorem sequencerStep_qSetDm (h : s.seq = .qSetDm) {p q : Level}
    (hr : requestTable s.reqMode = some (p, q)) :
    sequencerStep s = .next (stepQSetDm (setLevel .dm q s)) := by
  simp [sequencerStep, issued, microStep, h, hr, issue_setWord]

/-- The two driving states of REQUEST have no step when the mode has no row (log 8). -/
theorem sequencerStep_noRow (h : s.seq = .qSetDp ∨ s.seq = .qSetDm) (hr : requestTable s.reqMode = none) :
    sequencerStep s = .refused .noRequestRow := by
  rcases h with h | h <;> simp [sequencerStep, issued, h, hr]

/-- A wait state issues nothing and waits for its successor. -/
theorem sequencerStep_wait {succ : Seq} (h : s.seq.waitSuccessor = some succ) :
    sequencerStep s = .next (waitTick succ s) := by
  cases hq : s.seq <;> simp [Seq.waitSuccessor, hq] at h <;> subst h <;>
    simp [sequencerStep, issued, microStep, hq, stepBWait1, stepBWait2, stepBWait3, stepQWait, stepGWait]

theorem sequencerStep_gRdDp (h : s.seq = .gRdDp) : sequencerStep s = .next (stepGRdDp s) := by
  simp [sequencerStep, issued, microStep, h]

theorem sequencerStep_gRdDm (h : s.seq = .gRdDm) : sequencerStep s = .next (stepGRdDm s) := by
  simp [sequencerStep, issued, microStep, h]

theorem sequencerStep_gCls (h : s.seq = .gCls) : sequencerStep s = .next (stepGCls s) := by
  simp [sequencerStep, issued, microStep, h]
end States

section Inversion
variable {s t : State}

/-- With no reset and no word from outside, a step is the sequencer's. -/
theorem step_sequencer (hr : s.input.rst = false) (hb : s.bench = none) :
    step s = andThen (sequencerStep (tickStart s)) fun m => .next (tickEnd m) := by
  simp [step, wholeTick, hr, tickBody, hb]

/-- Reset wins over everything. -/
theorem step_reset (hr : s.input.rst = true) : step s = .next (resetTick s) := by
  simp [step, wholeTick, hr]

/-- A word given from outside the sequencer is all its tick does. -/
theorem step_bench {u : UopWord} (hr : s.input.rst = false) (hb : s.bench = some u) :
    step s = andThen (issue u { tickStart s with bench := none }) fun m => .next (tickEnd m) := by
  simp [step, wholeTick, hr, tickBody, hb]

/-- Everything a step can do: a reset, a word from outside the sequencer, or the sequencer's step. -/
theorem step_cases (h : step s = .next t) :
    (s.input.rst = true ∧ t = resetTick s) ∨
    (s.input.rst = false ∧ ∃ u m, s.bench = some u ∧
      issue u { tickStart s with bench := none } = .next m ∧ t = tickEnd m) ∨
    (s.input.rst = false ∧ s.bench = none ∧ ∃ m, sequencerStep (tickStart s) = .next m ∧ t = tickEnd m) := by
  cases hr : s.input.rst with
  | true =>
    rw [step_reset hr] at h
    exact .inl ⟨rfl, by simpa using h.symm⟩
  | false =>
    cases hb : s.bench with
    | none =>
      rw [step_sequencer hr hb, andThen_eq_next] at h
      obtain ⟨m, hm, ht⟩ := h
      exact .inr (.inr ⟨rfl, rfl, m, hm, by simpa using ht.symm⟩)
    | some u =>
      rw [step_bench hr hb, andThen_eq_next] at h
      obtain ⟨m, hm, ht⟩ := h
      exact .inr (.inl ⟨rfl, u, m, rfl, hm, by simpa using ht.symm⟩)

/-- Every state a step answers has no word from outside the sequencer. -/
theorem exec_bench (i : Instr) (s t : State) (h : exec i s = .next t) : t.bench = s.bench := by
  cases i with
  | request marg =>
    simp only [exec, execRequest] at h
    split at h <;> cases h <;> rfl
  | slSet x level => cases x <;> cases h <;> rfl
  | slListen x => cases x <;> cases h <;> rfl
  | _ => cases h; rfl
end Inversion

section Parameters
/-- No instruction writes the parameters (R35 of 10_state.md). -/
theorem exec_cfg (i : Instr) (s t : State) (h : exec i s = .next t) : t.cfg = s.cfg := by
  cases i with
  | request marg =>
    simp only [exec, execRequest] at h
    split at h <;> cases h <;> rfl
  | slSet x level => cases x <;> cases h <;> rfl
  | slListen x => cases x <;> cases h <;> rfl
  | _ => cases h; rfl

theorem waitTick_cfg (succ : Seq) (s : State) : (waitTick succ s).cfg = s.cfg := by
  rcases waitTick_cases succ s with ⟨_, h⟩ | ⟨_, h⟩ <;> rw [h]

theorem microStep_cfg (q : Seq) (s t : State) (h : microStep q s = .next t) : t.cfg = s.cfg := by
  cases q with
  | ready =>
    simp only [microStep, stepReady] at h
    split at h
    · unfold accept at h
      split at h
      · exact (exec_cfg _ _ _ h).trans rfl
      · cases h; rfl
    · cases h; rfl
  | bSmp1 => cases h; unfold stepBSmp1; split <;> rfl
  | bSmp2 => cases h; unfold stepBSmp2; split <;> rfl
  | bWait1 | bWait2 | bWait3 | qWait | gWait => cases h; exact waitTick_cfg _ _
  | _ => cases h; rfl

theorem issue_cfg (u : UopWord) (s t : State) (h : issue u s = .next t) : t.cfg = s.cfg := by
  unfold issue at h
  split at h
  · exact exec_cfg _ _ _ h
  · cases h

theorem sequencerStep_cfg (s t : State) (h : sequencerStep s = .next t) : t.cfg = s.cfg := by
  unfold sequencerStep at h
  split at h
  · exact microStep_cfg _ _ _ h
  · obtain ⟨m, h1, h2⟩ := andThen_eq_next.1 h
    rw [microStep_cfg _ _ _ h2, issue_cfg _ _ _ h1]
  · cases h

/-- No step writes the parameters: "constants fixed when the instance is built" (R35 of 10_state.md). -/
theorem step_cfg (s t : State) (h : step s = .next t) : t.cfg = s.cfg := by
  rcases step_cases h with ⟨_, rfl⟩ | ⟨_, u, m, _, hm, rfl⟩ | ⟨_, _, m, hm, rfl⟩
  · rfl
  · exact (issue_cfg _ _ _ hm).trans rfl
  · exact (sequencerStep_cfg _ _ hm).trans rfl
end Parameters

end Sys2Proof.Machine
end

