-- ==== Sys2Proof/Laws/System.lean ====
section
/-! SUPPORT. What a list of instances does in one tick. -/

namespace Sys2Proof.Machine

/-- The list steps exactly when each instance does, to the instances' next states (R247 of 60_exceptions.md). -/
theorem stepAll_eq_next (ss ts : List State) :
    stepAll ss = .next ts ↔ List.Forall₂ (fun s t => step s = .next t) ss ts := by
  induction ss generalizing ts with
  | nil => cases ts <;> simp [stepAll]
  | cons s rest ih =>
    cases ts with
    | nil => cases hs : step s <;> simp [stepAll, hs]; cases hr : stepAll rest <;> simp
    | cons t ts' =>
      rw [List.forall₂_cons, ← ih]
      cases hs : step s <;> simp [stepAll, hs]
      cases hr : stepAll rest <;> simp

/-- A tick of a list of instances keeps each one's parameters. -/
theorem stepAll_cfg (ss ts : List State) (h : stepAll ss = .next ts) : ts.map (·.cfg) = ss.map (·.cfg) := by
  rw [stepAll_eq_next] at h
  induction h with
  | nil => rfl
  | cons h _ ih => simp [step_cfg _ _ h, ih]

@[simp] theorem portReset_cfg (c : Config) (w : Nat) : (portReset c w).cfg = { c with wiring := w } := rfl

/-- A system has at least one instance (R8 of 00_scope.md). -/
theorem nPorts_pos (y : System) : 0 < y.nPorts :=
  Nat.succ_pos _

@[simp] theorem instances_mk (s : State) (rest : List State) : System.instances ⟨s, rest⟩ = s :: rest := rfl

end Sys2Proof.Machine
end

