-- ==== Sys2Proof/Tests/Slice0.lean ====
section
/-! SUPPORT. The model's own tests. Expected words and values are copied from 95_test_vectors.md and from
the examples in the rules (the vector's id stands beside the test); the witnesses show that the hypotheses of
the statements in Certificates/Slice0/Obligations.lean can be met, each at the values where its clauses meet. -/

open Sys2Proof Sys2Proof.Machine

namespace Sys2Proof.Tests

/-! ### Decoding: words written out from the spec -/

theorem test_decode_begin : decodeCmd 0b00010000000000000000000000000000 = .ok .begin := by decide
theorem test_decode_request : decodeCmd 0b00100000000000000000000000000011 = .ok (.request 3) := by decide
/-- D4 -/
theorem test_decode_request_255 : decodeCmd 0x200000FF = .ok (.request 255) := by decide
theorem test_decode_isqc : decodeCmd 0b00110000000000000000000000000000 = .ok .isqc := by decide
theorem test_decode_getmode : decodeCmd 0b01000000000000000000000000100011 = .ok (.getmode 2 3) := by decide
/-- D10: 3300 = 0xCE4, 600 = 0x258 -/
theorem test_decode_mfv : decodeCmd 0b01010000110011100100001001011000 = .ok (.mfv 3300 600) := by decide
/-- 2.2, the first column -/
theorem test_decode_uops_dp :
    [0b0000, 0b0001, 0b0010, 0b0011, 0b0100, 0b0101, 0b0110].map (fun u : UopWord => (decodeUop u).toOption) =
      [some (.slSet .dp .v0), some (.slSet .dp .mv600), some (.slSet .dp .mv2700), some (.slSet .dp .mv3300),
        some (.slListen .dp), some (.slRdh .dp), some (.slRdl .dp)] := by decide
/-- 2.2, the second column -/
theorem test_decode_uops_dm :
    [0b1000, 0b1001, 0b1010, 0b1011, 0b1100, 0b1101, 0b1110].map (fun u : UopWord => (decodeUop u).toOption) =
      [some (.slSet .dm .v0), some (.slSet .dm .mv600), some (.slSet .dm .mv2700), some (.slSet .dm .mv3300),
        some (.slListen .dm), some (.slRdh .dm), some (.slRdl .dm)] := by decide
theorem test_decode_reserved_uops :
    decodeUop 0b0111 = .error .reservedMicroOp ∧ decodeUop 0b1111 = .error .reservedMicroOp := by decide
/-- D12 to D20 -/
theorem test_decode_illegal :
    [0x00000000, 0xFFFFFFFF, 0x60000000, 0x10000001, 0x30000010, 0x20000100, 0x40000123, 0x51000000,
      0x2FFFFF02].all (fun w : CmdWord => decodeCmd w = .error .illegalCommand) = true := by decide

/-! ### Well-formedness: each check with a term it refuses. `Instr.wellFormed` refuses no term, because the
operand types already carry each field's width. -/

theorem test_wellFormed_refuses_words :
    ∀ w ∈ [AnyWord.cmd 0x00000000, .cmd 0x60000000, .cmd 0x10000001, .cmd 0x20000100, .cmd 0x30000010,
      .cmd 0x40000123, .cmd 0x51000000, .uop 0b0111, .uop 0b1111], w.wellFormed = false := by decide
theorem test_wellFormed_accepts_words :
    ∀ w ∈ [AnyWord.cmd 0x10000000, .cmd 0x200000FF, .cmd 0x30000000, .cmd 0x400000FF, .cmd 0x50FFFFFF,
      .uop 0b1011, .uop 0b0100, .uop 0b1101, .uop 0b0110], w.wellFormed = true := by decide
theorem test_wellFormed_refuses_bands :
    ∀ c ∈ [{ Config.default with lowLo := 201 }, { Config.default with lowHi := 201 },
      { Config.default with midLo := 1001 }, { Config.default with midHi := 2901 },
      { Config.default with highLo := 3601 }, { Config.default with highHi := 2899 }],
      Config.wellFormed c = false := by decide
theorem test_wellFormed_default : Config.default.wellFormed = true := by decide
theorem test_every_instruction_is_wellFormed (i : Instr) : i.wellFormed = true := by
  cases i <;> first
    | rfl
    | exact decide_eq_true (BitVec.isLt _)
    | exact decide_eq_true ⟨BitVec.isLt _, BitVec.isLt _⟩

/-! ### Parameters: the last column of R8 -/

theorem test_widths : Mv = BitVec Config.mvW ∧ Ticks = BitVec Config.timerW ∧ Chan = BitVec Config.chW :=
  ⟨rfl, rfl, rfl⟩
/-- R8: 10 µs, 1500 ms and 2^21 > 1 500 000; R210: 1 ms is 1000 ticks. -/
theorem test_default_durations :
    Config.default.ticksOfMicros 10 = Config.default.tSettle.toNat ∧
      Config.default.ticksOfMillis 1500 = Config.default.tGlitch.toNat ∧
      Config.default.ticksOfMillis 1 = 1000 ∧ Config.default.tGlitch.toNat < 2 ^ Config.timerW ∧
      Config.default.durationNs Config.default.tGlitch.toNat = 1500 * 1000000 := by decide
theorem test_default_nominals :
    [Level.v0, .mv600, .mv2700, .mv3300].map (Level.nominal Config.default) = [0, 600, 2700, 3300] := by decide

/-! ### One step per instruction -/

/-- The state a step gives, if it gives one. -/
def next? (o : Result) : Option State :=
  match o with
  | .next s => some s
  | _ => none

/-- What one step shows after a word is placed: the response, the diagnostic and the lines. -/
def shown (nbits w : Nat) (s : State) : Option (Bool × Cond × BitVec 3 × Cond × LineReg × LineReg) :=
  (next? (step (s.withFetchWord nbits w))).map fun t =>
    (t.respValid, t.respStatus, t.respData, t.diag, t.lineDp, t.lineDm)

/-- A tick with no command and all pins and channels low. -/
def quiet : TickInput := ⟨false, false, 0, false, false, false, false, Vector.replicate 16 0⟩

/-- The end state of command 1 of program P1 (Est of P4). -/
def est : State :=
  { State.reset with
    hs := .established, mode := .qc5v, qc := true, lineDp := ⟨true, false, true⟩,
    lineDm := ⟨true, false, false⟩, ir := 0x10000000, reqMode := .qc5v, respValid := true, respData := 2,
    inputs := [quiet] }

/-- B1, state +1 -/
theorem test_begin_starts :
    (next? (step ({ State.reset with inputs := [quiet] }.withFetchWord 32 0x10000000))).map
      (fun t => (t.seq, t.ir, t.hs, t.respValid)) = some (.bLsnDm, 0x10000000, .idle, false) := by decide
/-- E5, first instance, and P4 row 3 -/
theorem test_request_rejections :
    shown 32 0x20000003 { State.reset with inputs := [quiet] } =
        some (true, .cap, 0, .cap, ⟨false, false, false⟩, ⟨false, false, false⟩) ∧
      shown 32 0x200000C8 est =
        some (true, .invMode, 2, .invMode, ⟨true, false, true⟩, ⟨true, false, false⟩) :=
  ⟨by decide, by decide⟩
/-- E2, row QC-12V: `marg` 4 is applied as QC-12V (R22: code 4) -/
theorem test_request_4_is_qc12v :
    (next? (step (est.withFetchWord 32 0x20000004))).map (fun t => (t.seq, t.reqMode, t.respValid)) =
      some (.qLsnDp, .qc12v, false) := by decide
/-- The answer in ESTABLISHED (R200's example) -/
theorem test_isqc_answers_one :
    shown 32 0x30000000 est = some (true, .ok, 1, .ok, ⟨true, false, true⟩, ⟨true, false, false⟩) := by decide
/-- R180 -/
theorem test_getmode_starts :
    (next? (step (est.withFetchWord 32 0x40000023))).map (fun t => (t.seq, t.ir, t.mode)) =
      some (.gRdDp, 0x40000023, .qc5v) := by decide
/-- R185's example: the channels read 3300 and 600 -/
theorem test_getmode_classifies :
    (next? (step { est with seq := .gCls, ir := 0x40000023, adcDp := 3300, adcDm := 600 })).map
      (fun t => (t.seq, t.respData, t.diag, t.mode)) = some (.ready, 3, .ok, .qc5v) := by decide
/-- P3 row 2 -/
theorem test_mfv_qc9v :
    shown 32 0x50CE4258 est = some (true, .ok, 3, .ok, ⟨true, false, true⟩, ⟨true, false, false⟩) := by decide
/-- P3 row 3 -/
theorem test_mfv_ambiguous :
    shown 32 0x505DC5DC est = some (true, .ok, 1, .ambig, ⟨true, false, true⟩, ⟨true, false, false⟩) := by decide
/-- S6 on DP -/
theorem test_set_0v :
    (next? (step ({ est with lineDp := ⟨true, true, true⟩ }.withFetchWord 8 0b0000))).map
      (fun t => (t.lineDp, t.lineDm)) = some (⟨true, false, false⟩, ⟨true, false, false⟩) := by decide
/-- S9 on DM -/
theorem test_set_600mv :
    (next? (step ({ est with lineDm := ⟨false, true, true⟩ }.withFetchWord 8 0b1001))).map
      (fun t => (t.lineDp, t.lineDm)) = some (⟨true, false, true⟩, ⟨true, false, true⟩) := by decide
/-- S7 on DM -/
theorem test_listen_keeps_bits :
    (next? (step ({ est with lineDm := ⟨true, true, true⟩ }.withFetchWord 8 0b1100))).map
      (fun t => (t.lineDp, t.lineDm)) = some (⟨true, false, true⟩, ⟨false, true, true⟩) := by decide
/-- S14 on DM: the kept `h` is not what is read -/
theorem test_read_high_released :
    (next? (step ({ est with lineDm := ⟨false, true, true⟩, readBit := true }.withFetchWord 8 0b1101))).map
      (·.readBit) = some false := by decide
/-- S10 on DP -/
theorem test_read_high_driven :
    (next? (step (est.withFetchWord 8 0b0101))).map (·.readBit) = some true := by decide
/-- S13 on DP -/
theorem test_read_low_driven :
    (next? (step ({ est with lineDp := ⟨true, true, false⟩ }.withFetchWord 8 0b0110))).map (·.readBit) =
      some true := by decide
/-- S16 on DM -/
theorem test_read_low_released :
    (next? (step ({ est with
        lineDm := ⟨false, false, false⟩, inputs := [{ quiet with extDmL := true }] }.withFetchWord 8 0b1110))).map
      (·.readBit) = some true := by decide

/-! ### Witnesses: the hypotheses of the statements can be met -/

/-- A state in which the sequencer is in `q`. -/
def inState (q : Seq) : State := { est with seq := q }

/-- The host offers `w` in every one of `n` ticks, with D-'s high-pin at `b`. -/
def offered (n : Nat) (w : CmdWord) (b : Bool) : List TickInput :=
  List.replicate n { quiet with cmdValid := true, cmd := w, extDmH := b }

/-- The shortest waits. -/
def shortWaits : Config := { Config.default with tSettle := 0, tGlitch := 1, tAdcSettle := 0 }

theorem test_witness_encode_of_decode : decode (.cmd 0x50FFFFFF) = .ok (.mfv 4095 4095) := by decide
theorem test_witness_decode_error :
    decode (.cmd 0x60000000) = .error .illegalCommand ∧ decode (.uop 0b1111) = .error .reservedMicroOp := by decide

/-- AtStep holds of every sequencer state somewhere: the step statements, one clause each. -/
theorem test_witness_atStep (q : Seq) : (inState q).AtStep q := ⟨rfl, rfl, rfl⟩

theorem test_witness_issued_word :
    issued (inState .bSmp2) = .word 0b1101 ∧ decodeUop 0b1101 = .ok (.slRdh .dm) ∧
      (inState .bSmp2).bench = none ∧ (inState .bSmp2).input.rst = false := by decide
/-- A REQUEST step that has a row, for RequestSteps and EachStepIssuesItsWord, and one that has none. -/
theorem test_witness_rows :
    requestTable (inState .qSetDp).reqMode = some (.mv600, .v0) ∧
      requestTable { inState .qSetDm with reqMode := .qcVariable }.reqMode = some (.mv600, .mv3300) ∧
      requestTable { inState .qSetDm with reqMode := .disconnected }.reqMode = none := by decide
theorem test_witness_refusals :
    step { est with bench := some 0b0111 } = .refused .reservedMicroOp ∧
      step { inState .qSetDm with reqMode := .generic5v } = .refused .noRequestRow := ⟨rfl, rfl⟩

theorem test_witness_ready_offers :
    (inState .ready).input.cmdValid = false ∧
      { est with inputs := offered 1 0x30000000 false }.AtStep .ready ∧
      Offers { est with inputs := offered 1 0x30000000 false } 0 0x30000000 ∧
      decodeCmd 0x30000000 = .ok .isqc :=
  ⟨rfl, ⟨rfl, rfl, rfl⟩, ⟨rfl, rfl⟩, by decide⟩
theorem test_witness_offers_mfv :
    Offers { est with inputs := offered 1 0x50CE4258 false } 0 0x50CE4258 ∧
      (0x50CE4258 : CmdWord).toNat = 0x50000000 + (3300 : Mv).toNat * 0x1000 + (600 : Mv).toNat :=
  ⟨⟨rfl, rfl⟩, by decide⟩
theorem test_witness_illegal_offered :
    { est with inputs := offered 1 0x2FFFFF02 false }.AtStep .ready ∧
      Offers { est with inputs := offered 1 0x2FFFFF02 false } 0 0x2FFFFF02 ∧
      decodeCmd 0x2FFFFF02 = .error .illegalCommand :=
  ⟨⟨rfl, rfl, rfl⟩, ⟨rfl, rfl⟩, by decide⟩
theorem test_witness_placed :
    decodeTableWord 32 0x200000FF = some (.request 255) ∧ decodeTableWord 8 0b1110 = some (.slRdl .dm) := by decide

/-- The clauses of RequestRejectionsInOrder and RequestStartsTheRequestSteps, at the ends of their ranges:
`marg` 0, 1, 2, 6, 7 and 255 under `qc = 1`, any under `qc = 0`. -/
theorem test_witness_margs :
    State.reset.qc = false ∧ est.qc = true ∧ (0 : Marg).toNat = 0 ∧ (1 : Marg).toNat = 1 ∧
      7 ≤ (7 : Marg).toNat ∧ 7 ≤ (255 : Marg).toNat ∧ 2 ≤ (2 : Marg).toNat ∧ (6 : Marg).toNat ≤ 6 := by decide

/-- Both values of both samples. -/
theorem test_witness_samples :
    ({ inState .bSmp1 with lineDm := ⟨false, true, false⟩ }.lineDm.oe = false) ∧
      (inState .bSmp1).input.extDmH = false ∧
      { inState .bSmp2 with inputs := [{ quiet with extDmH := true }] }.input.extDmH = true ∧
      { inState .bSmp2 with inputs := [{ quiet with extDmH := true }] }.AtStep .bSmp2 :=
  ⟨rfl, rfl, rfl, ⟨rfl, rfl, rfl⟩⟩

/-- The read-back law: a level set on D-, then a set of the other line and a read. -/
theorem test_witness_read_back :
    execAll [.slListen .dm, .begin] est ≠ .refused .noRequestRow ∧
      (next? (execAll [.slListen .dm, .begin] est)).isSome = true ∧
      ∀ i ∈ [Instr.slSet .dp .v0, .slListen .dp, .slRdl .dm],
        (∀ lv, i ≠ .slSet .dm lv) ∧ i ≠ .slListen .dm := by
  refine ⟨nofun, rfl, ?_⟩
  intro i hi
  simp only [List.mem_cons, List.not_mem_nil, or_false] at hi
  rcases hi with rfl | rfl | rfl <;> exact ⟨nofun, nofun⟩

/-- A step that changes each line by each micro-operation. -/
theorem test_witness_lines_change :
    ((next? (step (inState .qLsnDp))).map (·.lineDp) = some ⟨false, false, true⟩) ∧
      ((next? (step (inState .qSetDm))).map (·.lineDm) = some ⟨true, false, false⟩) ∧
      ((next? (step (inState .bHiDp))).map (·.lineDp) = some ⟨true, true, true⟩) ∧
      ((next? (step (inState .bLsnDm))).map (·.lineDm) = some ⟨false, false, false⟩) := by decide

theorem test_witness_wait_pairs :
    [Seq.bWait1, .bWait2, .bWait3, .qWait, .gWait].map Seq.waitSuccessor =
      [some .bSmp1, some .bHi2Dp, some .bSmp2, some .qSetDp, some .gCls] := by decide
/-- A wait with `timer` 0, 1 and 3: 1, 1 and 3 ticks. -/
theorem test_witness_wait_ticks :
    waitTicks 0 = 1 ∧ waitTicks 1 = 1 ∧ waitTicks 3 = 3 ∧
      (∀ j, j < waitTicks 3 → ({ inState .qWait with timer := 3 }.inputAt j).rst = false) ∧
      (next? (step { inState .qWait with timer := 3 })).map (fun t => (t.seq, t.timer)) = some (.qWait, 2) ∧
      (next? (step { inState .qWait with timer := 1 })).map (fun t => (t.seq, t.timer)) = some (.qSetDp, 0) ∧
      (next? (step { inState .qWait with timer := 0 })).map (fun t => (t.seq, t.timer)) = some (.qSetDp, 0) := by
  refine ⟨by decide, by decide, by decide, ?_, by decide, by decide, by decide⟩
  intro j hj
  have : waitTicks 3 = 3 := by decide
  rw [this] at hj
  interval_cases j <;> rfl

/-- R173: the values where the bands meet. -/
theorem test_witness_band_edges :
    [0, 199, 200, 999, 1000, 2899, 2900, 3599, 3600, 4095].map (bandOf Config.default) =
      [.low, .low, .mid, .mid, .none, .none, .high, .high, .none, .none] := by decide
theorem test_witness_decoder_premises :
    Config.default.wellFormed = true ∧ Config.default.discRule = .band ∧
      bandOf Config.default 0 = .low ∧ bandOf Config.default 600 = .mid ∧
      bandOf Config.default 3300 = .high ∧ Config.default.decodeRow4 = .qc9v ∧
      requestTable .qc9v = some (.mv3300, .mv600) := by decide

/-- EXACT: (0, 0) is Disconnected, (0, 1) is not (R175), a classified pair is as before. -/
theorem test_decode_exact :
    [((0 : Mv), (0 : Mv)), (0, 1), (600, 0), (600, 1500)].map (fun v =>
        decodeVoltages { Config.default with discRule := .exact } v.1 v.2) =
      [.disconnected, .generic5v, .qc5v, .generic5v] := by decide

/-- The tick rules: `mode`, `qc` and `hs` do change in each of the ways the statements name. -/
theorem test_witness_register_changes :
    ((next? (step (inState .bSmp1))).map (fun t => (t.mode, t.qc, t.hs)) = some (.generic5v, false, .fallback)) ∧
      ((next? (step { inState .bSmp2 with qc := false, lineDm := ⟨false, false, false⟩ })).map
        (fun t => (t.qc, t.lnk)) = some (true, true)) ∧
      ((next? (step { inState .bSmp2 with
          lineDm := ⟨false, false, false⟩, inputs := [{ quiet with extDmH := true }] })).map
        (fun t => (t.mode, t.qc, t.hs)) = some (.generic5v, false, .fallback)) ∧
      ((next? (step { inState .qSetDm with hs := .probeRecheck, lnk := true, reqMode := .qc20v })).map
        (fun t => (t.mode, t.hs)) = some (.qc20v, .established)) ∧
      ((next? (step (inState .bLsnDm))).map (·.hs) = some .probeListen) ∧
      ((next? (step (inState .bGliDp))).map (·.hs) = some .probeGlitch) ∧
      ((next? (step (inState .bHi2Dp))).map (·.hs) = some .probeRecheck) := by decide

/-- READY's transfers where their conditions meet: REQUEST 1, 2, 6 and 7 with `qc = 1`, and 2 with `qc = 0`. -/
theorem test_witness_ready_transfers :
    ([0x20000001, 0x20000002, 0x20000006, 0x20000007].map fun w =>
        (next? (step { est with inputs := offered 1 w false })).map (fun t => (t.seq, t.respValid))) =
      [some (.ready, true), some (.qLsnDp, false), some (.qLsnDp, false), some (.ready, true)] ∧
      (next? (step { est with qc := false, inputs := offered 1 0x20000002 false })).map
        (fun t => (t.seq, t.respValid)) = some (.ready, true) := by decide
/-- A state in READY with both lines in Listen, for the first row of R282. -/
theorem test_witness_both_listen :
    State.reset.seq = .ready ∧ State.reset.lineDp.symbolic = none ∧ State.reset.lineDm.symbolic = none := by decide

theorem test_witness_busy : (inState .bWait2).seq ≠ .ready ∧ (inState .gRdDp).adcCh = 0 := by decide
theorem test_witness_reset_tick : { est with inputs := [{ quiet with rst := true }] }.input.rst = true := rfl
theorem test_witness_outputs :
    { inState .gRdDp with ir := 0x400000F3 }.adcCh = 15 ∧ { inState .gRdDm with ir := 0x400000F3 }.adcCh = 3 ∧
      (inState .gWait).adcReq = false := by decide

/-- A resting state of the invariant. -/
theorem test_witness_inv_established : est.Inv := by
  constructor <;> decide

/-- A busy state of the invariant, with no reset ahead: the first state of a REQUEST. -/
theorem test_witness_inv_busy :
    { inState .qLsnDp with respValid := false, inputs := [], cfg := shortWaits }.Inv ∧
      (inState .qLsnDp).seq ≠ .ready ∧
      NoReset 16 { inState .qLsnDp with respValid := false, inputs := [], cfg := shortWaits } := by
  refine ⟨by constructor <;> decide, by decide, ?_⟩
  intro j _
  rfl

theorem test_witness_inv_step :
    (next? (step { inState .qLsnDp with respValid := false })).map (·.seq) = some .qLsnDm := by decide

/-- A run keeps to the reachable states. -/
theorem reachable_ticks (k : Nat) (s t : State) (hs : Reachable s) (h : ticks k s = .next t) : Reachable t := by
  induction k generalizing s with
  | zero => cases h; exact hs
  | succ n ih =>
    simp only [ticks] at h
    cases hq : step s with
    | next m => rw [hq] at h; exact ih m (.step s m hs hq) h
    | fault f => cases f
    | refused r => rw [hq] at h; cases h

/-- One tick of a BEGIN, for the `idle` clause of R38 in a busy state. -/
theorem test_witness_reachable_idle :
    ∃ t, Reachable t ∧ t.hs = .idle ∧ t.seq = .bLsnDm :=
  ⟨_, .step _ _ (.reset Config.default (offered 1 0x10000000 false)) rfl, rfl, rfl⟩

/-- Inputs of a BEGIN whose first sample (tick 4) reads `a` and whose second (tick 9) reads `b`, the waits
being the shortest. -/
def samples (a b : Bool) : List TickInput :=
  offered 4 0x10000000 false ++ offered 1 0x10000000 a ++ offered 4 0x10000000 false ++
    offered 1 0x10000000 b ++ offered 5 0x10000000 false

/-- ESTABLISHED is reachable: the shortest BEGIN, R281's Tg + 3 Ts + 11 = 15 ticks. -/
theorem test_witness_reachable_established :
    ∃ t, Reachable t ∧ t.hs = .established ∧ t.seq = .ready ∧ t.mode = .qc5v :=
  ⟨_, reachable_ticks 15 _ _ (.reset shortWaits (samples true false)) rfl, rfl, rfl, rfl⟩
/-- The link bit is set in a reachable state. -/
theorem test_witness_reachable_link : ∃ t, Reachable t ∧ t.lnk = true :=
  ⟨_, reachable_ticks 10 _ _ (.reset shortWaits (samples true false)) rfl, rfl⟩
/-- FALLBACK is reachable: Ts + 4 = 5 ticks. -/
theorem test_witness_reachable_fallback : ∃ t, Reachable t ∧ t.hs = .fallback ∧ t.seq = .ready :=
  ⟨_, reachable_ticks 5 _ _ (.reset shortWaits (samples false false)) rfl, rfl, rfl⟩

/-- No reset in any tick when no listed input asserts one. -/
theorem noReset_of_inputs (s : State) (h : ∀ i ∈ s.inputs, i.rst = false) (k : Nat) : NoReset k s := by
  intro j _
  unfold State.inputAt
  rcases Nat.lt_or_ge j s.inputs.length with hj | hj
  · rw [List.getD_eq_getElem _ _ hj]
    exact h _ (List.getElem_mem hj)
  · rw [List.getD_eq_default _ _ hj]
    rfl

/-- The premises of the whole-BEGIN statements, for the three ways a BEGIN ends. -/
theorem test_witness_begin (a b : Bool) :
    ∃ s : State, s.AtStep .ready ∧ NoReset 15 s ∧ Offers s 0 0x10000000 ∧ waitTicks s.cfg.tSettle = 1 ∧
      waitTicks s.cfg.tGlitch = 1 ∧ (s.inputAt 4).extDmH = a ∧ (s.inputAt 9).extDmH = b := by
  refine ⟨{ est with cfg := shortWaits, inputs := samples a b }, ⟨rfl, rfl, rfl⟩,
    noReset_of_inputs _ ?_ 15, ⟨rfl, rfl⟩, rfl, rfl, rfl, rfl⟩
  cases a <;> cases b <;> decide

/-- The premises of the whole-REQUEST statements: QC-Variable offered twice, six ticks apart. -/
theorem test_witness_request :
    ∃ s : State, s.AtStep .ready ∧ s.qc = true ∧ NoReset 12 s ∧ Offers s 0 0x20000006 ∧ Offers s 6 0x20000006 ∧
      waitTicks s.cfg.tSettle + 5 = 6 ∧ Mode.qcVariable.requestable = true ∧
      requestTable .qcVariable = some (.mv600, .mv3300) ∧
      (0x20000006 : CmdWord).toNat = 0x20000000 + Mode.qcVariable.code.toNat :=
  ⟨{ est with cfg := shortWaits, inputs := offered 12 0x20000006 false }, ⟨rfl, rfl, rfl⟩, rfl,
    noReset_of_inputs _ (by decide) 12, ⟨rfl, rfl⟩, ⟨rfl, rfl⟩, by decide, rfl, rfl, by decide⟩

/-- The premises of the whole-GETMODE statement. -/
theorem test_witness_getmode :
    ∃ s : State, s.AtStep .ready ∧ NoReset 5 s ∧ Offers s 0 0x40000023 ∧ waitTicks s.cfg.tAdcSettle + 4 = 5 ∧
      (0x40000023 : CmdWord).toNat = 0x40000000 + (2 : Chan).toNat * 16 + (3 : Chan).toNat ∧
      (s.inputAt 1).adc.get (2 : Chan).toFin = 0 ∧ (s.inputAt 2).adc.get (3 : Chan).toFin = 0 :=
  ⟨{ est with cfg := shortWaits, inputs := offered 5 0x40000023 false }, ⟨rfl, rfl, rfl⟩,
    noReset_of_inputs _ (by decide) 5, ⟨rfl, rfl⟩, by decide, by decide, by decide, by decide⟩

/-- Two different states that show the same. -/
theorem test_witness_hidden :
    { est with lineDm := ⟨false, true, true⟩, estMv := 5 }.visible =
        { est with lineDm := ⟨false, false, true⟩ }.visible ∧
      { est with lineDm := ⟨false, true, true⟩, estMv := 5 } ≠ { est with lineDm := ⟨false, false, true⟩ } := by
  decide

/-- Two differently wired instances: the system's step is the two instances' steps (R247). -/
theorem test_system_steps_both :
    let y : System := ⟨{ est with inputs := offered 1 0x30000000 false },
      [{ inState .bLsnDm with cfg := { Config.default with wiring := 1 } }]⟩
    y.wellFormed = true ∧ y.nPorts = 2 ∧
      (match systemStep y with
      | .next z => z.instances.map (fun s => (s.seq, s.respValid, s.cfg.wiring))
      | _ => []) = [(.ready, true, 0), (.bHiDp, false, 1)] := by decide
/-- Ill-formed systems: two instances on the same pins, and instances that differ in another parameter. -/
theorem test_system_ill_formed :
    System.wellFormed ⟨est, [est]⟩ = false ∧
      System.wellFormed ⟨est, [{ est with cfg := { shortWaits with wiring := 1 } }]⟩ = false ∧
      System.wellFormed ⟨est, [{ est with
        cfg := { Config.default with wiring := 1, decodeRow4 := .qc12v } }]⟩ = false := by decide
/-- A system of three ports right after reset. -/
theorem test_witness_system_reset :
    ([4, 0, 7] : List Nat).Nodup ∧ (System.reset shortWaits 4 [0, 7]).wellFormed = true ∧
      (System.reset shortWaits 4 [0, 7]).nPorts = 3 := by decide

end Sys2Proof.Tests
end

section
/-! The sequencer's tick as a relation: one constructor per thing a tick can do, with the guard under which it does
it and the whole next state. Every statement about one tick is a case analysis over it. -/

namespace Sys2Proof.Machine

/-- `SeqMove s m`: a tick that starts in `s` (after `tickStart`) and is left to the sequencer can end in `m`
(before `tickEnd`). READY's moves are R206 of 45_sequencer.md, the waits R210, the others the micro-step
each is named after. -/
inductive SeqMove (s : State) : State → Prop where
  | stay (hq : s.seq = .ready) (hv : s.input.cmdValid = false) : SeqMove s s
  | illegal {e : DecodeError} (hq : s.seq = .ready) (hv : s.input.cmdValid = true)
      (hd : decodeCmd s.input.cmd = .error e) : SeqMove s (raise .illCmd (latchCommand s.input.cmd s))
  | begin (hq : s.seq = .ready) (hv : s.input.cmdValid = true) (hd : decodeCmd s.input.cmd = .ok .begin) :
      SeqMove s (goto .bLsnDm (latchCommand (commandWord .begin) s))
  | reject {marg : Marg} {e : Cond} (hq : s.seq = .ready) (hv : s.input.cmdValid = true)
      (hd : decodeCmd s.input.cmd = .ok (.request marg)) (hc : requestCheck s.qc marg = .error e) :
      SeqMove s (raise e (latchCommand (commandWord (.request marg)) s))
  | request {marg : Marg} {m : Mode} (hq : s.seq = .ready) (hv : s.input.cmdValid = true)
      (hd : decodeCmd s.input.cmd = .ok (.request marg)) (hc : requestCheck s.qc marg = .ok m) :
      SeqMove s (goto .qLsnDp { latchCommand (commandWord (.request marg)) s with reqMode := m, lnk := false })
  | isqc (hq : s.seq = .ready) (hv : s.input.cmdValid = true) (hd : decodeCmd s.input.cmd = .ok .isqc) :
      SeqMove s (complete .ok (qcData s.qc) (latchCommand (commandWord .isqc) s))
  | getmode {a b : Chan} (hq : s.seq = .ready) (hv : s.input.cmdValid = true)
      (hd : decodeCmd s.input.cmd = .ok (.getmode a b)) :
      SeqMove s (goto .gRdDp (latchCommand (commandWord (.getmode a b)) s))
  | mfv {a b : Mv} (hq : s.seq = .ready) (hv : s.input.cmdValid = true)
      (hd : decodeCmd s.input.cmd = .ok (.mfv a b)) :
      SeqMove s (completeClass (decodeVoltages s.cfg a b) (latchCommand (commandWord (.mfv a b)) s))
  | waitOn {succ : Seq} (hw : s.seq.waitSuccessor = some succ) (ht : 1 < s.timer.toNat) :
      SeqMove s { s with timer := s.timer - 1 }
  | waitDone {succ : Seq} (hw : s.seq.waitSuccessor = some succ) (ht : s.timer.toNat ≤ 1) :
      SeqMove s { s with timer := 0, seq := succ }
  | bLsnDm (hq : s.seq = .bLsnDm) : SeqMove s (stepBLsnDm (setListen .dm s))
  | bHiDp (hq : s.seq = .bHiDp) : SeqMove s (stepBHiDp (setLevel .dp .mv3300 s))
  | bSmp1Low (hq : s.seq = .bSmp1) (hp : pinIn s .dm .h = false) :
      SeqMove s (fallBack (deliverRead false s))
  | bSmp1High (hq : s.seq = .bSmp1) (hp : pinIn s .dm .h = true) :
      SeqMove s (goto .bGliDp (deliverRead true s))
  | bGliDp (hq : s.seq = .bGliDp) : SeqMove s (stepBGliDp (setLevel .dp .mv600 s))
  | bHi2Dp (hq : s.seq = .bHi2Dp) : SeqMove s (stepBHi2Dp (setLevel .dp .mv3300 s))
  | bSmp2Low (hq : s.seq = .bSmp2) (hp : pinIn s .dm .h = false) :
      SeqMove s (goto .qLsnDp { deliverRead false s with qc := true, reqMode := .qc5v, lnk := true })
  | bSmp2High (hq : s.seq = .bSmp2) (hp : pinIn s .dm .h = true) :
      SeqMove s (fallBack (deliverRead true s))
  | qLsnDp (hq : s.seq = .qLsnDp) : SeqMove s (stepQLsnDp (setListen .dp s))
  | qLsnDm (hq : s.seq = .qLsnDm) : SeqMove s (stepQLsnDm (setListen .dm s))
  | qSetDp {p q : Level} (hq : s.seq = .qSetDp) (hr : requestTable s.reqMode = some (p, q)) :
      SeqMove s (stepQSetDp (setLevel .dp p s))
  | qSetDm {p q : Level} (hq : s.seq = .qSetDm) (hr : requestTable s.reqMode = some (p, q)) :
      SeqMove s (stepQSetDm (setLevel .dm q s))
  | gRdDp (hq : s.seq = .gRdDp) : SeqMove s (stepGRdDp s)
  | gRdDm (hq : s.seq = .gRdDm) : SeqMove s (stepGRdDm s)
  | gCls (hq : s.seq = .gCls) : SeqMove s (stepGCls s)

section Inversion
variable {s t m : State}

/-- A command word never decodes to a micro-operation (R70 of 30_encoding.md: the two kinds never mix). -/
theorem decodeCmd_command {w : CmdWord} {i : Instr} (h : decodeCmd w = .ok i) :
    i = .begin ∨ (∃ marg, i = .request marg) ∨ i = .isqc ∨ (∃ a b, i = .getmode a b) ∨ ∃ a b, i = .mfv a b := by
  unfold decodeCmd at h
  split_ifs at h <;> cases h <;> simp

/-- The acceptance of a command, one move for each outcome (R206 of 45_sequencer.md). -/
theorem accept_move (hq : s.seq = .ready) (hv : s.input.cmdValid = true)
    (h : accept s.input.cmd s = .next m) : SeqMove s m := by
  unfold accept at h
  split at h
  case h_2 e hd => cases h; exact .illegal hq hv hd
  case h_1 i hd =>
    obtain rfl | ⟨marg, rfl⟩ | rfl | ⟨a, b, rfl⟩ | ⟨a, b, rfl⟩ := decodeCmd_command hd
    · cases h; exact .begin hq hv hd
    · simp only [exec, execRequest, latchCommand_qc] at h
      split at h <;> cases h
      case h_1 e hc => exact .reject hq hv hd hc
      case h_2 md hc => exact .request hq hv hd hc
    · cases h; exact .isqc hq hv hd
    · cases h; exact .getmode hq hv hd
    · cases h; exact .mfv hq hv hd

theorem stepReady_move (hq : s.seq = .ready) (h : stepReady s = .next m) : SeqMove s m := by
  unfold stepReady at h
  split at h
  case isTrue hv => exact accept_move hq hv h
  case isFalse hv => cases h; exact .stay hq (by simpa using hv)

theorem wait_move {succ : Seq} (hw : s.seq.waitSuccessor = some succ) : SeqMove s (waitTick succ s) := by
  rcases waitTick_cases succ s with ⟨ht, h⟩ | ⟨ht, h⟩ <;> rw [h]
  · exact .waitOn hw ht
  · exact .waitDone hw ht

theorem bSmp1_move (hq : s.seq = .bSmp1) : SeqMove s (stepBSmp1 (deliverRead (pinIn s .dm .h) s)) := by
  cases hp : pinIn s .dm .h
  · exact .bSmp1Low hq hp
  · exact .bSmp1High hq hp

theorem bSmp2_move (hq : s.seq = .bSmp2) : SeqMove s (stepBSmp2 (deliverRead (pinIn s .dm .h) s)) := by
  cases hp : pinIn s .dm .h
  · exact .bSmp2Low hq hp
  · exact .bSmp2High hq hp

/-- A driving state of REQUEST that steps has a row of the request table. -/
theorem row_of_sequencerStep (hq : s.seq = .qSetDp ∨ s.seq = .qSetDm) (h : sequencerStep s = .next m) :
    ∃ p q, requestTable s.reqMode = some (p, q) := by
  cases hr : requestTable s.reqMode with
  | none => rw [sequencerStep_noRow hq hr] at h; cases h
  | some row => exact ⟨row.1, row.2, rfl⟩

/-- Everything the sequencer can do in a tick. -/
theorem sequencerStep_move (h : sequencerStep s = .next m) : SeqMove s m := by
  cases hq : s.seq with
  | ready => exact stepReady_move hq (sequencerStep_ready hq ▸ h)
  | bLsnDm => cases (sequencerStep_bLsnDm hq).symm.trans h; exact .bLsnDm hq
  | bHiDp => cases (sequencerStep_bHiDp hq).symm.trans h; exact .bHiDp hq
  | bSmp1 => cases (sequencerStep_bSmp1 hq).symm.trans h; exact bSmp1_move hq
  | bGliDp => cases (sequencerStep_bGliDp hq).symm.trans h; exact .bGliDp hq
  | bHi2Dp => cases (sequencerStep_bHi2Dp hq).symm.trans h; exact .bHi2Dp hq
  | bSmp2 => cases (sequencerStep_bSmp2 hq).symm.trans h; exact bSmp2_move hq
  | qLsnDp => cases (sequencerStep_qLsnDp hq).symm.trans h; exact .qLsnDp hq
  | qLsnDm => cases (sequencerStep_qLsnDm hq).symm.trans h; exact .qLsnDm hq
  | qSetDp =>
    obtain ⟨p, q, hr⟩ := row_of_sequencerStep (.inl hq) h
    cases (sequencerStep_qSetDp hq hr).symm.trans h; exact .qSetDp hq hr
  | qSetDm =>
    obtain ⟨p, q, hr⟩ := row_of_sequencerStep (.inr hq) h
    cases (sequencerStep_qSetDm hq hr).symm.trans h; exact .qSetDm hq hr
  | gRdDp => cases (sequencerStep_gRdDp hq).symm.trans h; exact .gRdDp hq
  | gRdDm => cases (sequencerStep_gRdDm hq).symm.trans h; exact .gRdDm hq
  | gCls => cases (sequencerStep_gCls hq).symm.trans h; exact .gCls hq
  | bWait1 | bWait2 | bWait3 | qWait | gWait =>
    obtain ⟨succ, hw⟩ : ∃ succ, s.seq.waitSuccessor = some succ := ⟨_, congrArg Seq.waitSuccessor hq⟩
    cases (sequencerStep_wait hw).symm.trans h
    exact wait_move hw

/-- A micro-operation word never decodes to a command (R70 of 30_encoding.md). -/
theorem decodeUop_microOp {u : UopWord} {i : Instr} (h : decodeUop u = .ok i) :
    ∃ x, (∃ level, i = .slSet x level) ∨ i = .slListen x ∨ i = .slRdh x ∨ i = .slRdl x := by
  unfold decodeUop at h
  dsimp only at h
  split_ifs at h <;> cases h <;> simp

/-- Writing a line with its own record changes nothing. -/
theorem setLine_line_self (x : Line) (s : State) : s.setLine x (s.line x) = s := by
  cases x <;> rfl

/-- A micro-operation writes at most one line and the delivered read bit (R103 to R106 of 40_signal_line.md). -/
theorem issue_writes {u : UopWord} (h : issue u s = .next t) :
    ∃ (x : Line) (r : LineReg) (b : Bool), t = deliverRead b (s.setLine x r) := by
  unfold issue at h
  split at h
  case h_2 => cases h
  case h_1 i hd =>
    obtain ⟨x, ⟨level, rfl⟩ | rfl | rfl | rfl⟩ := decodeUop_microOp hd
    · cases h; exact ⟨x, level.driven, s.readBit, by cases x <;> rfl⟩
    · cases h; exact ⟨x, (s.line x).released, s.readBit, by cases x <;> rfl⟩
    · cases h; exact ⟨x, s.line x, pinIn s x .h, by rw [setLine_line_self]⟩
    · cases h; exact ⟨x, s.line x, pinIn s x .l, by rw [setLine_line_self]⟩

/-- A step without reset: a word from outside the sequencer, which writes at most a line and the read bit, or one
move of the sequencer. -/
theorem step_move (h : step s = .next t) (hr : s.input.rst = false) :
    (∃ u x r b, s.bench = some u ∧
      t = tickEnd (deliverRead b (State.setLine { tickStart s with bench := none } x r))) ∨
    (s.bench = none ∧ ∃ m, SeqMove (tickStart s) m ∧ t = tickEnd m) := by
  rcases step_cases h with ⟨hr', _⟩ | ⟨_, u, m, hb, hm, rfl⟩ | ⟨_, hb, m, hm, rfl⟩
  · simp [hr] at hr'
  · obtain ⟨x, r, b, rfl⟩ := issue_writes hm
    exact .inl ⟨u, x, r, b, hb, rfl⟩
  · exact .inr ⟨hb, m, sequencerStep_move hm, rfl⟩

end Inversion
end Sys2Proof.Machine
end

section
/-! Who writes `mode`, `qc` and `hs` (R21, R22, R23 of 10_state.md). -/

namespace Sys2Proof.Machine
variable {s t m : State}

/-- Who writes `mode` (R22 of 10_state.md). -/
theorem move_mode (h : SeqMove s m) (hne : m.mode ≠ s.mode) :
    ((s.seq = .bSmp1 ∨ s.seq = .bSmp2) ∧ m.mode = .generic5v ∧ m.hs = .fallback) ∨
    (s.seq = .qSetDm ∧ m.mode = s.reqMode ∧ m.respValid = true) := by
  cases h with
  | bSmp1Low hq => exact .inl ⟨.inl hq, rfl, rfl⟩
  | bSmp2High hq => exact .inl ⟨.inr hq, rfl, rfl⟩
  | qSetDm hq => exact .inr ⟨hq, rfl, rfl⟩
  | _ => exact absurd rfl hne

/-- Who sets `qc` (R23 of 10_state.md). -/
theorem move_qc_rises (h : SeqMove s m) (h0 : s.qc = false) (h1 : m.qc = true) :
    s.seq = .bSmp2 ∧ pinIn s .dm .h = false := by
  cases h with
  | bSmp2Low hq hp => exact ⟨hq, hp⟩
  | bSmp1Low | bSmp2High => cases h1
  | _ => exact absurd (h0.symm.trans h1) Bool.false_ne_true

/-- Who clears `qc` (R23 of 10_state.md). -/
theorem move_qc_falls (h : SeqMove s m) (h1 : s.qc = true) (h0 : m.qc = false) :
    (s.seq = .bSmp1 ∧ pinIn s .dm .h = false) ∨ (s.seq = .bSmp2 ∧ pinIn s .dm .h = true) := by
  cases h with
  | bSmp1Low hq hp => exact .inl ⟨hq, hp⟩
  | bSmp2High hq hp => exact .inr ⟨hq, hp⟩
  | bSmp2Low => cases h0
  | _ => exact absurd (h0.symm.trans h1) Bool.false_ne_true

theorem stepQSetDm_hs (q : Level) (s : State) :
    (stepQSetDm (setLevel .dm q s)).hs = if s.lnk then .established else s.hs := rfl

/-- Who writes `hs` (R21 of 10_state.md), with the value each writes. -/
theorem move_hs (h : SeqMove s m) (hne : m.hs ≠ s.hs) :
    (s.seq = .bLsnDm ∧ m.hs = .probeListen) ∨ (s.seq = .bGliDp ∧ m.hs = .probeGlitch) ∨
    (s.seq = .bHi2Dp ∧ m.hs = .probeRecheck) ∨ ((s.seq = .bSmp1 ∨ s.seq = .bSmp2) ∧ m.hs = .fallback) ∨
    (s.seq = .qSetDm ∧ s.lnk = true ∧ m.hs = .established) := by
  cases h with
  | bLsnDm hq => exact .inl ⟨hq, rfl⟩
  | bGliDp hq => exact .inr (.inl ⟨hq, rfl⟩)
  | bHi2Dp hq => exact .inr (.inr (.inl ⟨hq, rfl⟩))
  | bSmp1Low hq => exact .inr (.inr (.inr (.inl ⟨.inl hq, rfl⟩)))
  | bSmp2High hq => exact .inr (.inr (.inr (.inl ⟨.inr hq, rfl⟩)))
  | @qSetDm p q hq =>
    rw [stepQSetDm_hs] at hne ⊢
    cases hl : s.lnk with
    | false => simp [hl] at hne
    | true => exact .inr (.inr (.inr (.inr ⟨hq, rfl, rfl⟩)))
  | _ => exact absurd rfl hne

/-- Settles O36: only the moves that end in FALLBACK and Q_SET_DM write `mode`. -/
theorem modeIsWrittenOnlyByFallbackAndRequest : Obligations.ModeIsWrittenOnlyByFallbackAndRequest := by
  intro s t h hr hne
  obtain ⟨u, x, r, b, _, rfl⟩ | ⟨hb, m, hm, rfl⟩ := step_move h hr
  · simp at hne
  · have hw := move_mode hm hne
    exact ⟨hb, hw⟩

/-- Settles O37: the second sample that reads low sets `qc`, the two samples that end in FALLBACK clear it. -/
theorem qcIsWrittenOnlyByTheSamples : Obligations.QcIsWrittenOnlyByTheSamples := by
  intro s t h hr
  obtain ⟨u, x, r, b, _, rfl⟩ | ⟨hb, m, hm, rfl⟩ := step_move h hr
  · simp +contextual
  · have rises := move_qc_rises hm
    have falls := move_qc_falls hm
    exact ⟨fun h0 h1 => ⟨hb, rises h0 h1⟩, fun h1 h0 => ⟨hb, falls h1 h0⟩⟩

/-- Settles O38: the moves of BEGIN write `hs`, and Q_SET_DM does when the link bit is set. -/
theorem hsIsWrittenOnlyByBegin : Obligations.HsIsWrittenOnlyByBegin := by
  intro s t h hr hne
  obtain ⟨u, x, r, b, _, rfl⟩ | ⟨hb, m, hm, rfl⟩ := step_move h hr
  · simp at hne
  · have hw := move_hs hm hne
    exact ⟨hb, hw⟩

end Sys2Proof.Machine
end
section
/-! The values after reset and what the outputs show. -/

namespace Sys2Proof.Machine
variable (s : State)

theorem pinDrives_eq (x : Line) (half : Half) :
    s.pinDrives x half = if (s.line x).oe then some ((s.line x).half half) else none := rfl

theorem adcReq_eq : s.adcReq = decide (s.seq = .gRdDp ∨ s.seq = .gRdDm) := by
  simp [State.adcReq, Bool.beq_eq_decide_eq]

theorem adcCh_eq : s.adcCh =
    if s.seq = .gRdDp then s.ir.extractLsb' 4 4 else if s.seq = .gRdDm then s.ir.extractLsb' 0 4 else 0 := by
  unfold State.adcCh
  cases s.seq <;> rfl

/-- A line is at a level exactly when both its pins drive that level's bits (R27 and R102). -/
theorem symbolic_eq_some_iff (r : LineReg) (level : Level) :
    r.symbolic = some level ↔ r.oe = true ∧ r.h = level.highPin ∧ r.l = level.lowPin := by
  rcases r with ⟨_ | _, _ | _, _ | _⟩ <;> cases level <;> decide

/-- Settles O44: each register of `State.reset`, then the codes of R24 in order. -/
theorem resetStateHasTheValuesOfTheSpec : Obligations.ResetStateHasTheValuesOfTheSpec := by
  rintro s rfl
  exact ⟨rfl, rfl, rfl, rfl, rfl, rfl, rfl, rfl, rfl, rfl, rfl, rfl, rfl, rfl, rfl, rfl, by decide⟩

/-- Settles O45: the outputs field by field, the code tables by cases, the levels through the driven pins. -/
theorem outputsShowTheRegisters : Obligations.OutputsShowTheRegisters := by
  intro s
  refine ⟨?outputs, ?modes, ?handshake, ?conditions, ?pins, ?levels⟩
  case outputs =>
    have hready : s.cmdReady = decide (s.seq = .ready) := rfl
    have hbusy : s.busy = decide (s.seq ≠ .ready) := by simp [State.busy, hready]
    simp only [State.outputs, pinDrives_eq, hready, hbusy, adcReq_eq, adcCh_eq]
    rfl
  case modes => intro m; cases m <;> rfl
  case handshake => intro h; cases h <;> rfl
  case conditions => intro e; cases e <;> rfl
  case pins => exact fun x half => ⟨rfl, by cases half <;> rfl, rfl⟩
  case levels =>
    intro x level
    rw [symbolic_eq_some_iff, pinDrives_eq, pinDrives_eq]
    cases (s.line x).oe <;> simp [LineReg.half]

end Sys2Proof.Machine
end
section
/-! The invariant, read per sequencer state. `State.Inv` names its facts by the handshake state; `State.PhaseAt`
names the same facts by the sequencer state, so that one tick's proof finds what it needs at its own state. -/

namespace Sys2Proof.Machine

/-- What `hs`, `mode`, `qc` and the lines are at rest: items (c), (d) and (e) of R38 of 10_state.md. -/
def State.AtRest (s : State) : Prop :=
  (s.hs = .idle ∧ s.qc = false ∧ s.mode = .disconnected ∧ s.lineDp.oe = false ∧ s.lineDm.oe = false) ∨
  (s.hs = .fallback ∧ s.qc = false ∧ s.mode = .generic5v ∧ s.probes .mv3300 = true) ∨
  (s.hs = .established ∧ s.qc = true ∧ s.mode.requestable = true ∧ s.drivesPair s.mode = true)

/-- What holds during the REQUEST steps, run for BEGIN (`lnk = 1`) or for the host (R30, R31 of 10_state.md). -/
def State.Requesting (s : State) : Prop :=
  s.qc = true ∧ s.reqMode.requestable = true ∧
    ((s.hs = .probeRecheck ∧ s.lnk = true ∧ s.reqMode = .qc5v) ∨
     (s.hs = .established ∧ s.lnk = false ∧ s.mode.requestable = true))

/-- Where each probing state of the handshake is in its steps, and what the lines are there. -/
def State.Probing (s : State) : Prop :=
  (s.hs = .probeListen ∧ ((s.seq = .bHiDp ∧ s.lineDm.oe = false) ∨
    ((s.seq = .bWait1 ∨ s.seq = .bSmp1 ∨ s.seq = .bGliDp) ∧ s.probes .mv3300 = true))) ∨
  (s.hs = .probeGlitch ∧ (s.seq = .bWait2 ∨ s.seq = .bHi2Dp) ∧ s.probes .mv600 = true) ∨
  (s.hs = .probeRecheck ∧ (s.seq = .bWait3 ∨ s.seq = .bSmp2) ∧ s.probes .mv3300 = true)

/-- What holds in the sequencer state `q`. -/
def State.PhaseAt (s : State) : Seq → Prop
  | .ready | .bLsnDm | .gRdDp | .gRdDm | .gWait | .gCls => s.lnk = false ∧ s.AtRest
  | .bHiDp => s.lnk = false ∧ s.hs = .probeListen ∧ s.lineDm.oe = false
  | .bWait1 | .bSmp1 | .bGliDp => s.lnk = false ∧ s.hs = .probeListen ∧ s.probes .mv3300 = true
  | .bWait2 | .bHi2Dp => s.lnk = false ∧ s.hs = .probeGlitch ∧ s.probes .mv600 = true
  | .bWait3 | .bSmp2 => s.lnk = false ∧ s.hs = .probeRecheck ∧ s.probes .mv3300 = true
  | .qLsnDp => s.Requesting
  | .qLsnDm => s.Requesting ∧ s.lineDp.oe = false
  | .qWait | .qSetDp => s.Requesting ∧ s.lineDp.oe = false ∧ s.lineDm.oe = false
  | .qSetDm => s.Requesting ∧ s.drivesDp s.reqMode = true ∧ s.lineDm.oe = false

/-- The facts of the invariant that do not depend on the handshake. -/
structure State.Housekeeping (s : State) : Prop where
  bench : s.bench = none
  modeNeedsQc : s.mode.requestable = true → s.qc = true
  timer : s.seq.waitSuccessor = none → s.timer = 0
  response : s.respValid = true → s.seq = .ready
  diagnostic : s.diag ≠ .ok → s.respValid = true
  status : s.respStatus ≠ .ambig

section Reading
variable {s : State}

theorem State.Inv.housekeeping (h : s.Inv) : s.Housekeeping where
  bench := h.bench
  modeNeedsQc := h.modeNeedsQc
  timer := h.timer
  response := h.response
  diagnostic := h.diagnostic
  status := h.status

/-- The three classes of sequencer states are disjoint: resting, REQUEST steps, probing. -/
theorem inRequest_of_resting {q : Seq} (h : q.resting = true) : q.inRequest = false := by
  revert h
  cases q <;> decide

/-- Outside the REQUEST steps the link bit is 0 (item (f) of R38). -/
theorem State.Inv.unlinked (h : s.Inv) (hq : s.seq.inRequest = false) : s.lnk = false := by
  cases hl : s.lnk with
  | false => rfl
  | true => exact absurd (hq.symm.trans (h.link hl).1) Bool.false_ne_true

/-- In a resting state `hs` is IDLE, FALLBACK or ESTABLISHED: a probing `hs` has its own states. -/
theorem State.Inv.atRest (h : s.Inv) (hq : s.seq.resting = true) : s.AtRest := by
  cases hh : s.hs with
  | idle =>
    obtain ⟨hqc, hmode, hdp, hdm, _⟩ := h.idle hh
    exact .inl ⟨hh, hqc, hmode, hdp, hdm⟩
  | fallback =>
    obtain ⟨hqc, hmode, hprobe, _⟩ := h.fallback hh
    exact .inr (.inl ⟨hh, hqc, hmode, hprobe⟩)
  | established =>
    obtain ⟨hqc, hmode, ⟨_, hpair⟩ | hreq⟩ := h.established hh
    · exact .inr (.inr ⟨hh, hqc, hmode, hpair⟩)
    · exact absurd ((inRequest_of_resting hq).symm.trans hreq) Bool.false_ne_true
  | probeListen =>
    have hseq := h.probeListen hh
    grind [Seq.resting]
  | probeGlitch =>
    have hseq := h.probeGlitch hh
    grind [Seq.resting]
  | probeRecheck =>
    have hseq := h.probeRecheck hh
    grind [Seq.resting, inRequest_of_resting]

/-- The REQUEST steps run for BEGIN with the link bit set, or for the host in ESTABLISHED (R30, R31). -/
theorem State.Inv.requesting (h : s.Inv) (hq : s.seq.inRequest = true) : s.Requesting := by
  obtain ⟨hqc, hreq, ⟨hh, hl⟩ | hh⟩ := h.request hq
  · exact ⟨hqc, hreq, .inl ⟨hh, hl, (h.link hl).2.2⟩⟩
  · have hl : s.lnk = false := by
      cases hl : s.lnk with
      | false => rfl
      | true => exact absurd (hh.symm.trans (h.link hl).2.1) nofun
    exact ⟨hqc, hreq, .inr ⟨hh, hl, (h.established hh).2.1⟩⟩

/-- Outside the resting states and the REQUEST steps, `hs` is the probing state whose steps these are. -/
theorem State.Inv.probing (h : s.Inv) (hr : s.seq.resting = false) (hq : s.seq.inRequest = false) :
    s.Probing := by
  cases hh : s.hs with
  | probeListen => exact .inl ⟨hh, h.probeListen hh⟩
  | probeGlitch => exact .inr (.inl ⟨hh, h.probeGlitch hh⟩)
  | probeRecheck => exact .inr (.inr ⟨hh, by simpa [hq] using h.probeRecheck hh⟩)
  | idle => have := h.idle hh; simp [hr] at this
  | fallback => have := h.fallback hh; simp [hr] at this
  | established => have := h.established hh; simp [hr, hq] at this

/-- The invariant gives the facts of the state it is in. -/
theorem State.Inv.phase (h : s.Inv) : s.PhaseAt s.seq := by
  obtain ⟨hlsn, hwait, hset⟩ := h.requestLines
  cases hq : s.seq with
  | ready | bLsnDm | gRdDp | gRdDm | gWait | gCls =>
    exact ⟨h.unlinked (by rw [hq]; rfl), h.atRest (by rw [hq]; rfl)⟩
  | bHiDp | bWait1 | bSmp1 | bGliDp | bWait2 | bHi2Dp | bWait3 | bSmp2 =>
    refine ⟨h.unlinked (by rw [hq]; rfl), ?_⟩
    simpa [State.Probing, hq] using h.probing (by rw [hq]; rfl) (by rw [hq]; rfl)
  | qLsnDp => exact h.requesting (by rw [hq]; rfl)
  | qLsnDm => exact ⟨h.requesting (by rw [hq]; rfl), hlsn hq⟩
  | qWait => exact ⟨h.requesting (by rw [hq]; rfl), hwait (.inl hq)⟩
  | qSetDp => exact ⟨h.requesting (by rw [hq]; rfl), hwait (.inr hq)⟩
  | qSetDm => exact ⟨h.requesting (by rw [hq]; rfl), hset hq⟩

theorem State.Housekeeping.inv_of_atRest (h : s.Housekeeping) (hq : s.seq.resting = true) (hl : s.lnk = false)
    (hr : s.AtRest) : s.Inv :=
  { h with
    idle := fun hh => by simpa [State.AtRest, hh, hq] using hr
    fallback := fun hh => by simpa [State.AtRest, hh, hq] using hr
    established := fun hh => by
      obtain ⟨hqc, hmode, hpair⟩ : s.qc = true ∧ s.mode.requestable = true ∧ s.drivesPair s.mode = true := by
        simpa [State.AtRest, hh] using hr
      exact ⟨hqc, hmode, .inl ⟨hq, hpair⟩⟩
    probeListen := fun hh => by simp [State.AtRest, hh] at hr
    probeGlitch := fun hh => by simp [State.AtRest, hh] at hr
    probeRecheck := fun hh => by simp [State.AtRest, hh] at hr
    link := by simp [hl]
    request := by simp [inRequest_of_resting hq]
    requestLines := by grind [Seq.resting] }

theorem State.Housekeeping.inv_of_probing (h : s.Housekeeping) (hl : s.lnk = false) (hp : s.Probing) : s.Inv :=
  { h with
    idle := fun hh => by simp [State.Probing, hh] at hp
    fallback := fun hh => by simp [State.Probing, hh] at hp
    established := fun hh => by simp [State.Probing, hh] at hp
    probeListen := fun hh => by simpa [State.Probing, hh] using hp
    probeGlitch := fun hh => by simpa [State.Probing, hh] using hp
    probeRecheck := fun hh => .inl (by simpa [State.Probing, hh] using hp)
    link := by simp [hl]
    request := by grind [State.Probing, Seq.inRequest]
    requestLines := by grind [State.Probing] }

theorem State.Housekeeping.inv_of_requesting (h : s.Housekeeping) (hq : s.seq.inRequest = true)
    (hr : s.Requesting) (hp : s.PhaseAt s.seq) : s.Inv :=
  { h with
    idle := fun hh => by simp [State.Requesting, hh] at hr
    fallback := fun hh => by simp [State.Requesting, hh] at hr
    established := fun hh => by
      obtain ⟨hqc, _, hr⟩ := hr
      exact ⟨hqc, (hr.resolve_left (by simp [hh])).2.2, .inr hq⟩
    probeListen := fun hh => by simp [State.Requesting, hh] at hr
    probeGlitch := fun hh => by simp [State.Requesting, hh] at hr
    probeRecheck := fun _ => .inr hq
    link := fun hl => by grind [State.Requesting]
    request := fun _ => by grind [State.Requesting]
    requestLines := by grind [State.PhaseAt] }

/-- The facts of its own state, with the housekeeping, give the invariant back. -/
theorem State.Housekeeping.inv (h : s.Housekeeping) (hp : s.PhaseAt s.seq) : s.Inv := by
  have hp' := hp
  cases hq : s.seq with rw [hq] at hp'
  | ready | bLsnDm | gRdDp | gRdDm | gWait | gCls =>
    exact h.inv_of_atRest (by rw [hq]; rfl) hp'.1 hp'.2
  | bHiDp | bWait1 | bSmp1 | bGliDp | bWait2 | bHi2Dp | bWait3 | bSmp2 =>
    exact h.inv_of_probing hp'.1 (by simpa [State.Probing, hq] using hp'.2)
  | qLsnDp => exact h.inv_of_requesting (by rw [hq]; rfl) hp' hp
  | qLsnDm | qWait | qSetDp | qSetDm => exact h.inv_of_requesting (by rw [hq]; rfl) hp'.1 hp

end Reading

section Moves
variable {s m : State}

theorem move_bench (h : SeqMove s m) : m.bench = s.bench := by
  cases h <;> rfl

/-- A REQUEST that passes its checks finds `qc` set and names a mode with a row (R155 of 42_mode_request.md). -/
theorem requestCheck_ok {qc : Bool} {marg : Marg} {md : Mode} (h : requestCheck qc marg = .ok md) :
    qc = true ∧ md.requestable = true := by
  obtain ⟨_, h'⟩ | ⟨_, _, h'⟩ | ⟨_, _, _, h'⟩ | ⟨m, hqc, hm, h'⟩ := requestCheck_cases qc marg <;>
    cases h'.symm.trans h
  exact ⟨hqc, requestedMode_requestable hm⟩

/-- A REQUEST that fails its checks is not answered AMBIG (R152 to R154 of 42_mode_request.md). -/
theorem requestCheck_error {qc : Bool} {marg : Marg} {e : Cond} (h : requestCheck qc marg = .error e) :
    e ≠ .ambig := by
  obtain ⟨_, h'⟩ | ⟨_, _, h'⟩ | ⟨_, _, _, h'⟩ | ⟨m, hqc, hm, h'⟩ := requestCheck_cases qc marg <;>
    cases h'.symm.trans h <;> exact nofun

/-- The timer is 0 outside the wait states: whatever loads it goes to a wait, and a wait leaves it 0 (R28). -/
theorem move_timer (h : SeqMove s m) (ht : s.seq.waitSuccessor = none → s.timer = 0)
    (hm : m.seq.waitSuccessor = none) : m.timer = 0 := by
  cases h with
  | waitOn hw => exact absurd (hm.symm.trans hw) nofun
  | waitDone => rfl
  | bHiDp | bGliDp | bHi2Dp | qLsnDm | gRdDm => cases hm
  | stay hq | illegal hq | begin hq | reject hq | request hq | isqc hq | getmode hq | mfv hq | bLsnDm hq
  | bSmp1Low hq | bSmp1High hq | bSmp2Low hq | bSmp2High hq | qLsnDp hq | qSetDp hq | qSetDm hq | gRdDp hq
  | gCls hq => exact ht (by rw [hq]; rfl)

/-- A response is given on the way to READY only (R33 of 10_state.md). -/
theorem move_response (h : SeqMove s m) (hv : s.respValid = false) (hm : m.respValid = true) :
    m.seq = .ready := by
  cases h with
  | illegal | reject | isqc | mfv | bSmp1Low | bSmp2High | qSetDm | gCls => rfl
  | _ => exact absurd (hv.symm.trans hm) Bool.false_ne_true

/-- A diagnostic comes with a response (R34 of 10_state.md). -/
theorem move_diagnostic (h : SeqMove s m) (hd : s.diag = .ok) (hm : m.diag ≠ .ok) : m.respValid = true := by
  cases h with
  | illegal | reject | isqc | mfv | bSmp1Low | bSmp2High | qSetDm | gCls => rfl
  | _ => exact absurd hd hm

/-- AMBIG is never a status (R231 of 60_exceptions.md). -/
theorem move_status (h : SeqMove s m) (hs : s.respStatus ≠ .ambig) : m.respStatus ≠ .ambig := by
  cases h with
  | illegal | isqc | mfv | bSmp1Low | bSmp2High | qSetDm | gCls => exact nofun
  | reject _ _ _ hc => exact requestCheck_error hc
  | _ => exact hs

/-- Item (b) of R38: the moves that write `mode` or clear `qc` leave a requestable mode only with `qc` set. -/
theorem move_modeNeedsQc (h : SeqMove s m) (hp : s.PhaseAt s.seq) (hb : s.mode.requestable = true → s.qc = true)
    (hm : m.mode.requestable = true) : m.qc = true := by
  cases h with
  | bSmp1Low | bSmp2High => cases hm
  | bSmp2Low => rfl
  | qSetDm hq =>
    rw [hq] at hp
    exact hp.1.1
  | _ => exact hb hm

theorem move_housekeeping (h : SeqMove s m) (hk : s.Housekeeping) (hp : s.PhaseAt s.seq)
    (hv : s.respValid = false) (hd : s.diag = .ok) : m.Housekeeping where
  bench := (move_bench h).trans hk.bench
  modeNeedsQc := move_modeNeedsQc h hp hk.modeNeedsQc
  timer := move_timer h hk.timer
  response := move_response h hv
  diagnostic := move_diagnostic h hd
  status := move_status h hk.status

/-- D+ at the table's level, then D- set to the table's level: both lines at the table's pair. -/
theorem drivesPair_of_drivesDp {md : Mode} {p q : Level} (hr : requestTable md = some (p, q))
    (hd : s.drivesDp md = true) (hm : s.lineDm = q.driven) : s.drivesPair md = true := by
  simp_all [State.drivesDp, State.drivesPair]

/-- Waiting stays in the phase, and its successor begins in the same one. -/
theorem phaseAt_waitSuccessor {q succ : Seq} (hw : q.waitSuccessor = some succ) :
    s.PhaseAt succ ↔ s.PhaseAt q := by
  cases q <;> cases hw <;> rfl

theorem probes_iff (level : Level) : s.probes level = true ↔ s.lineDp = level.driven ∧ s.lineDm.oe = false := by
  simp [State.probes]

/-- D+ set to the table's level drives it. -/
theorem drivesDp_of_driven {md : Mode} {p q : Level} (hr : requestTable md = some (p, q))
    (hd : s.lineDp = p.driven) : s.drivesDp md = true := by
  simp [State.drivesDp, hr, hd]

/-- At rest `qc` is set in ESTABLISHED only. -/
theorem established_of_qc (h : s.AtRest) (hqc : s.qc = true) : s.hs = .established ∧ s.mode.requestable = true := by
  obtain ⟨_, h0, _⟩ | ⟨_, h0, _⟩ | ⟨hh, _, hmode, _⟩ := h
  · exact absurd (h0.symm.trans hqc) Bool.false_ne_true
  · exact absurd (h0.symm.trans hqc) Bool.false_ne_true
  · exact ⟨hh, hmode⟩

/-- Q_SET_DM leaves ESTABLISHED, on whoever's behalf the REQUEST steps ran (R160 of 42_mode_request.md). -/
theorem stepQSetDm_established (h : s.Requesting) (q : Level) :
    (stepQSetDm (setLevel .dm q s)).hs = .established := by
  rw [stepQSetDm_hs]
  obtain ⟨_, _, ⟨_, hl, _⟩ | ⟨hh, hl, _⟩⟩ := h
  · simp [hl]
  · simp [hl, hh]

/-- Every move goes from the facts of its own state to the facts of the next. -/
theorem move_phase (h : SeqMove s m) (hp : s.PhaseAt s.seq) : m.PhaseAt m.seq := by
  cases h with
  | stay | waitOn => exact hp
  | waitDone hw => exact (phaseAt_waitSuccessor hw).2 hp
  | illegal hq | begin hq | reject hq | isqc hq | getmode hq | mfv hq | gRdDp hq | gRdDm hq | gCls hq
  | bSmp1High hq =>
    rw [hq] at hp
    exact hp
  | request hq _ _ hc =>
    rw [hq] at hp
    obtain ⟨hqc, hreq⟩ := requestCheck_ok hc
    obtain ⟨hh, hmode⟩ := established_of_qc hp.2 hqc
    exact ⟨hqc, hreq, .inr ⟨hh, rfl, hmode⟩⟩
  | bLsnDm hq =>
    rw [hq] at hp
    exact ⟨hp.1, rfl, rfl⟩
  | bHiDp hq =>
    rw [hq] at hp
    obtain ⟨hl, hh, hdm⟩ := hp
    exact ⟨hl, hh, (probes_iff _).2 ⟨rfl, hdm⟩⟩
  | bGliDp hq | bHi2Dp hq =>
    rw [hq] at hp
    obtain ⟨hl, _, hprobe⟩ := hp
    exact ⟨hl, rfl, (probes_iff _).2 ⟨rfl, ((probes_iff _).1 hprobe).2⟩⟩
  | bSmp1Low hq | bSmp2High hq =>
    rw [hq] at hp
    obtain ⟨hl, _, hprobe⟩ := hp
    exact ⟨hl, .inr (.inl ⟨rfl, rfl, rfl, hprobe⟩)⟩
  | bSmp2Low hq =>
    rw [hq] at hp
    obtain ⟨_, hh, _⟩ := hp
    exact ⟨rfl, rfl, .inl ⟨hh, rfl, rfl⟩⟩
  | qLsnDp hq =>
    rw [hq] at hp
    exact ⟨hp, rfl⟩
  | qLsnDm hq =>
    rw [hq] at hp
    exact ⟨hp.1, hp.2, rfl⟩
  | qSetDp hq hr =>
    rw [hq] at hp
    obtain ⟨hreq, _, hdm⟩ := hp
    exact ⟨hreq, drivesDp_of_driven hr rfl, hdm⟩
  | @qSetDm p q hq hr =>
    rw [hq] at hp
    obtain ⟨hreq, hdp, _⟩ := hp
    have hpair : (setLevel .dm q s).drivesPair s.reqMode = true := drivesPair_of_drivesDp hr hdp rfl
    exact ⟨rfl, .inr (.inr ⟨stepQSetDm_established hreq q, hreq.1, hreq.2.1, hpair⟩)⟩

/-- One move of the sequencer keeps the invariant, once the pulses are down. -/
theorem move_inv (h : SeqMove s m) (hi : s.Inv) (hv : s.respValid = false) (hd : s.diag = .ok) : m.Inv :=
  (move_housekeeping h hi.housekeeping hi.phase hv hd).inv (move_phase h hi.phase)
end Moves

section Ticks
variable {s t : State}

theorem State.Inv.tickStart (h : s.Inv) : (tickStart s).Inv :=
  State.Housekeeping.inv { h.housekeeping with response := nofun, diagnostic := fun hd => absurd rfl hd } h.phase

theorem State.Inv.tickEnd (h : s.Inv) : (tickEnd s).Inv :=
  State.Housekeeping.inv { h.housekeeping with } h.phase

/-- Right after reset, whatever `est_mv`, the parameters, the inputs and the tick are, the invariant holds. -/
theorem inv_reset (e : BitVec 16) (c : Config) (ins : List TickInput) (k : Nat) :
    State.Inv { State.reset with estMv := e, cfg := c, inputs := ins, tick := k } :=
  State.Housekeeping.inv
    { bench := rfl, modeNeedsQc := nofun, timer := fun _ => rfl, response := nofun
      diagnostic := fun hd => absurd rfl hd, status := nofun }
    ⟨rfl, .inl ⟨rfl, rfl, rfl, rfl, rfl⟩⟩

theorem step_inv (hi : s.Inv) (h : step s = .next t) : t.Inv := by
  cases hr : s.input.rst with
  | true =>
    cases (step_reset hr).symm.trans h
    exact (inv_reset _ _ _ _).tickEnd
  | false =>
    obtain ⟨u, _, _, _, hb, _⟩ | ⟨_, m, hm, rfl⟩ := step_move h hr
    · exact absurd (hi.bench.symm.trans hb) nofun
    · exact (move_inv hm hi.tickStart rfl rfl).tickEnd

/-- Settles O46: the base case of the invariant. -/
theorem invariantHoldsAtReset : Obligations.InvariantHoldsAtReset :=
  fun c ins => inv_reset 0 c ins 0

/-- Settles O47: reset establishes the invariant, and each move of the sequencer keeps it. -/
theorem everyStepKeepsTheInvariant : Obligations.EveryStepKeepsTheInvariant :=
  fun _ _ hi h => step_inv hi h

/-- The invariant holds in every state a run from reset reaches. -/
theorem inv_of_reachable (h : Reachable s) : s.Inv := by
  induction h with
  | reset c ins => exact invariantHoldsAtReset c ins
  | step s t _ ht ih => exact step_inv ih ht

/-- The symbolic level of each line when both are driven at the pair of a mode. -/
theorem symbolic_of_drivesPair {md : Mode} (h : s.drivesPair md = true) :
    ∃ p q, requestTable md = some (p, q) ∧ s.lineDp.symbolic = some p ∧ s.lineDm.symbolic = some q := by
  unfold State.drivesPair at h
  split at h
  case h_2 => cases h
  case h_1 p q hr =>
    simp only [Bool.and_eq_true, beq_iff_eq] at h
    exact ⟨p, q, hr, by simp [h.1], by simp [h.2]⟩

/-- Every mode but Disconnected and Generic-5V has a row in the request table (R151 of 42_mode_request.md). -/
theorem requestable_of_not_mem {md : Mode} (h : md ∉ [Mode.disconnected, .generic5v]) : md.requestable = true := by
  cases md with
  | disconnected | generic5v => simp at h
  | qc5v | qc9v | qc12v | qc20v | qcVariable => rfl

theorem resting_mem {q : Seq} :
    q.resting = true ↔ q ∈ [Seq.ready, .bLsnDm, .gRdDp, .gRdDm, .gWait, .gCls] := by
  cases q <;> decide

theorem inRequest_mem {q : Seq} : q.inRequest = true ↔ q ∈ [Seq.qLsnDp, .qLsnDm, .qWait, .qSetDp, .qSetDm] := by
  cases q <;> decide

/-- Item (g) of R38: at rest `hs` is terminal or IDLE, and `qc` is set in ESTABLISHED exactly. -/
theorem State.AtRest.terminal (h : s.AtRest) :
    s.hs ∈ [Hs.idle, .established, .fallback] ∧ (s.qc = true ↔ s.hs = .established) := by
  obtain ⟨hh, hqc, _⟩ | ⟨hh, hqc, _⟩ | ⟨hh, hqc, _⟩ := h <;> simp [hh, hqc]

/-- Settles O49: each item of R38 is read off the invariant, in READY through what holds at rest. -/
theorem reachableStatesMeetR38 : Obligations.ReachableStatesMeetR38 := by
  intro s hs
  have hi := inv_of_reachable hs
  have rest : s.seq = .ready → s.AtRest := fun hq => hi.atRest (by rw [hq]; rfl)
  refine ⟨fun hm => hi.modeNeedsQc (requestable_of_not_mem hm), ?c, ?d, ?e, ?f, fun hq => (rest hq).terminal⟩
  case c =>
    intro hq hh
    obtain ⟨hqc, _, ⟨_, hpair⟩ | hreq⟩ := hi.established hh
    · exact ⟨hqc, symbolic_of_drivesPair hpair⟩
    · simp [hq, Seq.inRequest] at hreq
  case d =>
    intro _ hh
    obtain ⟨hqc, hmode, hprobe, _⟩ := hi.fallback hh
    obtain ⟨hdp, hdm⟩ := (probes_iff _).1 hprobe
    exact ⟨hqc, hmode, hdm, hdp⟩
  case e =>
    intro hh
    obtain ⟨hqc, hmode, hdp, hdm, hq⟩ := hi.idle hh
    exact ⟨hqc, hmode, hdp, hdm, resting_mem.1 hq⟩
  case f =>
    intro hl
    obtain ⟨hq, hh, _⟩ := hi.link hl
    exact ⟨inRequest_mem.1 hq, hh⟩
end Ticks
end Sys2Proof.Machine
end
section
/-! What no output shows (R25, R26, R217): a step of a state and a step of its visible part show the same.
`visible` forgets the hidden bits, so "two states differ in hidden bits only" is an equality of visible parts and
the statement about pairs of states follows from one about each operation. -/

namespace Sys2Proof.Machine

/-- A step's answer, with the hidden bits of the next state forgotten. -/
def visibleResult (o : Result) : Result :=
  andThen o fun s => .next s.visible

/-- The operation answers the same, up to hidden bits, on a state and on its visible part. -/
def IgnoresHidden (f : State → Result) : Prop :=
  ∀ s, visibleResult (f s) = visibleResult (f s.visible)

section Visible
@[simp] theorem LineReg.visible_oe (r : LineReg) : r.visible.oe = r.oe := by
  rcases r with ⟨_ | _, l, h⟩ <;> rfl

@[simp] theorem LineReg.visible_visible (r : LineReg) : r.visible.visible = r.visible := by
  rcases r with ⟨_ | _, l, h⟩ <;> rfl

@[simp] theorem LineReg.visible_released (r : LineReg) : r.released.visible = ⟨false, false, false⟩ := rfl

@[simp] theorem LineReg.visible_driven (level : Level) : level.driven.visible = level.driven := rfl

theorem LineReg.visible_of_oe {r : LineReg} (h : r.oe = true) : r.visible = r := if_pos h

@[simp] theorem State.visible_visible (s : State) : s.visible.visible = s.visible := by
  simp [State.visible]

@[simp] theorem line_visible (x : Line) (s : State) : s.visible.line x = (s.line x).visible := by
  cases x <;> rfl

@[simp] theorem visible_setLine (x : Line) (r : LineReg) (s : State) :
    (s.setLine x r).visible = s.visible.setLine x r.visible := by
  cases x <;> rfl

@[simp] theorem visibleResult_next (s : State) : visibleResult (.next s) = .next s.visible := rfl
@[simp] theorem visibleResult_refused (r : Refusal) : visibleResult (.refused r) = .refused r := rfl

/-- A pin reads the same on the visible part: a driven line is visible, a released one reads the outside. -/
theorem pinIn_visible (s : State) (x : Line) (half : Half) : pinIn s.visible x half = pinIn s x half := by
  cases ho : (s.line x).oe with
  | false => rw [pinIn_released ho, pinIn_released (by simpa using ho)]; rfl
  | true => rw [pinIn_driven ho, pinIn_driven (by simpa using ho), line_visible, LineReg.visible_of_oe ho]

theorem pinDrives_visible (s : State) (x : Line) (half : Half) :
    s.visible.pinDrives x half = s.pinDrives x half := by
  cases ho : (s.line x).oe with
  | false => simp [State.pinDrives, State.pinOe, ho]
  | true => simp [State.pinDrives, State.pinOe, State.pinOut, ho, LineReg.visible_of_oe ho]

/-- The outputs are a function of the visible part (R217 of 45_sequencer.md). -/
theorem outputs_visible (s : State) : s.visible.outputs = s.outputs := by
  simp only [State.outputs, pinDrives_visible]
  rfl
end Visible

section Operations
/-- An operation that commutes with forgetting the hidden bits ignores them. -/
theorem IgnoresHidden.of_commutes {f : State → Result} (h : ∀ s, visibleResult (f s) = f s.visible) :
    IgnoresHidden f := by
  intro s
  rw [h s, h s.visible, State.visible_visible]

theorem IgnoresHidden.next {f : State → State} (h : ∀ s, (f s).visible = f s.visible) :
    IgnoresHidden fun s => .next (f s) :=
  .of_commutes fun s => congrArg Host.Outcome.next (h s)

/-- What follows an answer may forget the answer's hidden bits. -/
theorem visibleResult_andThen {g : State → Result} (hg : IgnoresHidden g) (o : Result) :
    visibleResult (andThen o g) = visibleResult (andThen (visibleResult o) g) := by
  cases o with
  | next m => exact hg m
  | fault f => rfl
  | refused r => rfl

theorem IgnoresHidden.andThen {f g : State → Result} (hf : IgnoresHidden f) (hg : IgnoresHidden g) :
    IgnoresHidden fun s => andThen (f s) g := by
  intro s
  rw [visibleResult_andThen hg, hf s, ← visibleResult_andThen hg]

theorem execRequest_ignoresHidden (marg : Marg) : IgnoresHidden (execRequest marg) := by
  refine .of_commutes fun s => ?_
  have hqc : s.visible.qc = s.qc := rfl
  simp only [execRequest, latchCommand_qc, hqc]
  cases requestCheck s.qc marg <;> rfl

theorem exec_ignoresHidden (i : Instr) : IgnoresHidden (exec i) := by
  cases i with
  | begin | isqc | getmode | mfv => exact .next fun _ => rfl
  | request marg => exact execRequest_ignoresHidden marg
  | slSet x level => exact .next fun s => visible_setLine x _ s
  | slListen x =>
    intro s
    simp [exec, execSlListen, setListen]
  | slRdh x => exact .next fun s => by rw [pinIn_visible]; rfl
  | slRdl x => exact .next fun s => by rw [pinIn_visible]; rfl

theorem issue_ignoresHidden (u : UopWord) : IgnoresHidden (issue u) := by
  unfold issue
  cases decodeUop u with
  | ok i => exact exec_ignoresHidden i
  | error e => exact fun _ => rfl

theorem accept_ignoresHidden (w : CmdWord) : IgnoresHidden (accept w) := by
  intro s
  unfold accept
  cases decodeCmd w with
  | ok i => exact exec_ignoresHidden i (latchCommand w s)
  | error e => exact IgnoresHidden.next (f := fun s => raise .illCmd (latchCommand w s)) (fun _ => rfl) s

theorem stepReady_ignoresHidden : IgnoresHidden stepReady := by
  intro s
  have hi : s.visible.input = s.input := rfl
  simp only [stepReady, hi]
  cases s.input.cmdValid with
  | true => exact accept_ignoresHidden s.input.cmd s
  | false => simp

theorem waitTick_visible (succ : Seq) (s : State) : (waitTick succ s).visible = waitTick succ s.visible :=
  apply_ite State.visible _ _ _

theorem stepBSmp1_visible (s : State) : (stepBSmp1 s).visible = stepBSmp1 s.visible :=
  apply_ite State.visible _ _ _

theorem stepBSmp2_visible (s : State) : (stepBSmp2 s).visible = stepBSmp2 s.visible :=
  apply_ite State.visible _ _ _

theorem microStep_ignoresHidden (q : Seq) : IgnoresHidden (microStep q) := by
  cases q with
  | ready => exact stepReady_ignoresHidden
  | bWait1 | bWait2 | bWait3 | qWait | gWait => exact .next (waitTick_visible _)
  | bSmp1 => exact .next stepBSmp1_visible
  | bSmp2 => exact .next stepBSmp2_visible
  | bLsnDm | bHiDp | bGliDp | bHi2Dp | qLsnDp | qLsnDm | qSetDp | qSetDm | gRdDp | gRdDm | gCls =>
    exact .next fun _ => rfl

theorem sequencerStep_ignoresHidden : IgnoresHidden sequencerStep := by
  intro s
  have hi : issued s.visible = issued s := rfl
  simp only [sequencerStep, hi]
  cases issued s with
  | silent => exact microStep_ignoresHidden s.seq s
  | word u => exact (issue_ignoresHidden u).andThen (microStep_ignoresHidden s.seq) s
  | noRow => rfl

theorem tickBody_ignoresHidden : IgnoresHidden tickBody := by
  intro s
  have hb : s.visible.bench = s.bench := rfl
  simp only [tickBody, hb]
  cases s.bench with
  | none => exact sequencerStep_ignoresHidden s
  | some u => exact issue_ignoresHidden u { s with bench := none }

theorem step_ignoresHidden : IgnoresHidden step := by
  intro s
  have hi : s.visible.input = s.input := rfl
  simp only [step, wholeTick, hi]
  cases s.input.rst with
  | true => rfl
  | false =>
    have hbody : IgnoresHidden fun s => andThen (tickBody s) fun t => .next (tickEnd t) :=
      tickBody_ignoresHidden.andThen (IgnoresHidden.next fun _ => rfl)
    exact hbody (tickStart s)

end Operations

/-- Settles O59: outputs and steps are functions of the visible part, up to hidden bits. -/
theorem hiddenBitsAreNeverObserved : Obligations.HiddenBitsAreNeverObserved := by
  intro s t hst
  refine ⟨by rw [← outputs_visible s, hst, outputs_visible t], ?_⟩
  intro s' hs
  have h : visibleResult (step t) = .next s'.visible := by
    rw [step_ignoresHidden t, ← hst, ← step_ignoresHidden s, hs]; rfl
  obtain ⟨t', ht, hv⟩ := andThen_eq_next.1 h
  exact ⟨t', ht, (Host.Outcome.next.inj hv).symm⟩
end Sys2Proof.Machine
end
section
/-! The formats N, M, A, V and U (R71 to R75 of 30_encoding.md): a word is the word of an instruction exactly when
its fields are the instruction's. Both decoders are read through these lemmas, so that decoding and encoding are one
relation between words and instructions. -/

namespace Sys2Proof

section Fields
variable {k l m n : Nat} {a : BitVec k} {b : BitVec l} {c : BitVec m} {d : BitVec n}

/-- A slice of a slice. The library has it for an outer slice that begins at bit 0. -/
theorem extractLsb'_extractLsb' {w : BitVec n} {lo len lo' len' : Nat} (h : lo' + len' ≤ len) :
    (w.extractLsb' lo len).extractLsb' lo' len' = w.extractLsb' (lo + lo') len' := by
  ext j hj
  have hin : lo' + j < len := by omega
  simp [hin, Nat.add_assoc]

/-- A word is a concatenation exactly when its slices are the parts. -/
theorem append_eq_slices_iff {w : BitVec (k + l)} : a ++ b = w ↔ w.extractLsb' l k = a ∧ w.extractLsb' 0 l = b := by
  constructor
  · rintro rfl
    exact ⟨BitVec.extractLsb'_append_eq_left, BitVec.extractLsb'_append_eq_right⟩
  · rintro ⟨rfl, rfl⟩
    exact BitVec.extractLsb'_append_extractLsb'

theorem append_append_eq_slices_iff {w : BitVec (k + l + m)} :
    a ++ b ++ c = w ↔ w.extractLsb' (m + l) k = a ∧ w.extractLsb' m l = b ∧ w.extractLsb' 0 m = c := by
  rw [append_eq_slices_iff, eq_comm, append_eq_slices_iff, extractLsb'_extractLsb' (by omega),
    extractLsb'_extractLsb' (by omega), and_assoc, Nat.add_zero]

theorem append_append_append_eq_slices_iff {w : BitVec (k + l + m + n)} :
    a ++ b ++ c ++ d = w ↔ w.extractLsb' (n + (m + l)) k = a ∧ w.extractLsb' (n + m) l = b ∧
      w.extractLsb' n m = c ∧ w.extractLsb' 0 n = d := by
  rw [append_eq_slices_iff, eq_comm, append_append_eq_slices_iff, extractLsb'_extractLsb' (by omega),
    extractLsb'_extractLsb' (by omega), extractLsb'_extractLsb' (by omega), and_assoc, and_assoc, Nat.add_zero]

/-- A word that agrees with a pattern under a mask of its high bits is the pattern and its own low bits. -/
theorem append_of_masked {w : BitVec (k + l)} (h : w &&& (BitVec.allOnes k ++ 0#l) = a ++ 0#l) :
    a ++ w.extractLsb' 0 l = w := by
  obtain ⟨ha, -⟩ := append_eq_slices_iff.1 h.symm
  rw [BitVec.extractLsb'_and, BitVec.extractLsb'_append_eq_left, BitVec.and_allOnes] at ha
  exact append_eq_slices_iff.2 ⟨ha, rfl⟩
end Fields

section Commands
variable {w : CmdWord}

theorem encode_begin_eq_iff :
    encode .begin = .cmd w ↔ w.extractLsb' 28 4 = 1 ∧ w.extractLsb' 0 28 = 0 := by
  rw [encode, AnyWord.cmd.injEq]
  exact append_eq_slices_iff

theorem encode_request_eq_iff {marg : Marg} :
    encode (.request marg) = .cmd w ↔
      w.extractLsb' 28 4 = 2 ∧ w.extractLsb' 8 20 = 0 ∧ w.extractLsb' 0 8 = marg := by
  rw [encode, AnyWord.cmd.injEq]
  exact append_append_eq_slices_iff

theorem encode_isqc_eq_iff :
    encode .isqc = .cmd w ↔ w.extractLsb' 28 4 = 3 ∧ w.extractLsb' 0 28 = 0 := by
  rw [encode, AnyWord.cmd.injEq]
  exact append_eq_slices_iff

theorem encode_getmode_eq_iff {a b : Chan} :
    encode (.getmode a b) = .cmd w ↔ w.extractLsb' 28 4 = 4 ∧ w.extractLsb' 8 20 = 0 ∧
      w.extractLsb' 4 4 = a ∧ w.extractLsb' 0 4 = b := by
  rw [encode, AnyWord.cmd.injEq]
  exact append_append_append_eq_slices_iff

theorem encode_mfv_eq_iff {a b : Mv} :
    encode (.mfv a b) = .cmd w ↔ w.extractLsb' 28 4 = 5 ∧ w.extractLsb' 24 4 = 0 ∧
      w.extractLsb' 12 12 = a ∧ w.extractLsb' 0 12 = b := by
  rw [encode, AnyWord.cmd.injEq]
  exact append_append_append_eq_slices_iff

/-- `DecodeCmd` inverts the command formats (R81 against R71 to R74). -/
theorem decodeCmd_eq_ok_iff {i : Instr} : decodeCmd w = .ok i ↔ encode i = .cmd w := by
  constructor
  · intro h
    unfold decodeCmd at h
    split_ifs at h with hbegin hrequest hisqc hgetmode hmfv <;> cases h
    · exact encode_begin_eq_iff.2 hbegin
    · exact encode_request_eq_iff.2 ⟨hrequest.1, hrequest.2, rfl⟩
    · exact encode_isqc_eq_iff.2 hisqc
    · exact encode_getmode_eq_iff.2 ⟨hgetmode.1, hgetmode.2, rfl, rfl⟩
    · exact encode_mfv_eq_iff.2 ⟨hmfv.1, hmfv.2, rfl, rfl⟩
  · intro h
    cases i with
    | begin =>
      obtain ⟨hop, hzero⟩ := encode_begin_eq_iff.1 h
      simp [decodeCmd, hop, hzero]
    | request marg =>
      obtain ⟨hop, hzero, rfl⟩ := encode_request_eq_iff.1 h
      simp [decodeCmd, hop, hzero]
    | isqc =>
      obtain ⟨hop, hzero⟩ := encode_isqc_eq_iff.1 h
      simp [decodeCmd, hop, hzero]
    | getmode a b =>
      obtain ⟨hop, hzero, rfl, rfl⟩ := encode_getmode_eq_iff.1 h
      simp [decodeCmd, hop, hzero]
    | mfv a b =>
      obtain ⟨hop, hzero, rfl, rfl⟩ := encode_mfv_eq_iff.1 h
      simp [decodeCmd, hop, hzero]
    | slSet | slListen | slRdh | slRdl => cases h

/-- An `op` field names one of the five commands or is reserved (R84). -/
theorem op_cases (op : BitVec 4) : op = 0 ∨ op = 1 ∨ op = 2 ∨ op = 3 ∨ op = 4 ∨ op = 5 ∨ 6 ≤ op.toNat := by
  revert op; decide

/-- Settles O4: for each `op`, the decoder's test on the zero field is the one R84 names. -/
theorem reservedCommandWordsAreIllegal : Obligations.ReservedCommandWordsAreIllegal := by
  refine ⟨fun w => ?_, rfl, rfl⟩
  obtain h | h | h | h | h | h | h := op_cases (w.extractLsb' 28 4)
  case inr.inr.inr.inr.inr.inr =>
    have hne (op : BitVec 4) (hop : op.toNat < 6) : w.extractLsb' 28 4 ≠ op := by
      rintro rfl; omega
    exact iff_of_true (by simp [decodeCmd, hne]) (.inr (.inl h))
  all_goals simp [decodeCmd, h]
end Commands

section MicroOperations
variable {u : UopWord} {i : Instr} {e : DecodeError}

/-- `DecodeUop` inverts the micro-operation format (R83 against R75). -/
theorem decodeUop_eq_ok_iff : decodeUop u = .ok i ↔ encode i = .uop u := by
  constructor
  · intro h
    unfold decodeUop at h
    dsimp only at h
    split_ifs at h with hset hlisten hrdh hrdl <;> cases h <;>
      simp only [encode, index_ofIndex, code_ofCode, AnyWord.uop.injEq]
    · exact append_append_eq_slices_iff.2 ⟨rfl, hset, rfl⟩
    · exact append_eq_slices_iff.2 ⟨rfl, hlisten⟩
    · exact append_eq_slices_iff.2 ⟨rfl, hrdh⟩
    · exact append_eq_slices_iff.2 ⟨rfl, hrdl⟩
  · intro h
    cases i with
    | slSet x level => cases h; cases x <;> cases level <;> rfl
    | slListen x | slRdh x | slRdl x => cases h; cases x <;> rfl
    | begin | request | isqc | getmode | mfv => cases h

/-- `uk` = 0b111 is the one reserved code of a micro-operation word (R83). -/
theorem decodeUop_eq_error_iff :
    decodeUop u = .error e ↔ e = .reservedMicroOp ∧ u.extractLsb' 0 3 = 0b111 := by
  cases e <;> revert u <;> decide
end MicroOperations

section Words
variable {w : AnyWord} {i : Instr}

/-- The decoder and the encoder are one relation. -/
theorem decode_eq_ok_iff : decode w = .ok i ↔ encode i = w := by
  cases w with
  | cmd w => exact decodeCmd_eq_ok_iff
  | uop u => exact decodeUop_eq_ok_iff

/-- Settles O1: the encoder's word is among the words that decode to the instruction. -/
theorem decodeOfEncodeIsIdentity : Obligations.DecodeOfEncodeIsIdentity :=
  fun _ => decode_eq_ok_iff.2 rfl

/-- Settles O2: the same relation read the other way. -/
theorem encodeOfDecodeIsIdentity : Obligations.EncodeOfDecodeIsIdentity :=
  fun _ _ => decode_eq_ok_iff.1

/-- Settles O5: each word is the word of the instruction beside it. -/
theorem wordsOfTheSpecDecode : Obligations.WordsOfTheSpecDecode :=
  have h := decodeOfEncodeIsIdentity
  ⟨h .begin, h (.request 3), h .isqc, h (.getmode 2 3), h (.mfv 3300 600), h (.slSet .dm .mv600),
    h (.slListen .dm), h (.slRdh .dm), h (.slRdl .dp)⟩
end Words

section OpcodeMap
variable {w : AnyWord} {r : OpRow} {i : Instr}

theorem opcodeMap_mnemonic_injective :
    ∀ r ∈ opcodeMap, ∀ r' ∈ opcodeMap, r.mnemonic = r'.mnemonic → r = r' := by
  decide

/-- The word of an instruction spells a row of the opcode map with the instruction's mnemonic. -/
theorem encode_spells_row : ∀ i : Instr, Laws.SpellsItsRow.Statement i
  | .begin => Laws.SpellsItsRow.begin
  | .request marg => Laws.SpellsItsRow.request marg
  | .isqc => Laws.SpellsItsRow.isqc
  | .getmode a b => Laws.SpellsItsRow.getmode a b
  | .mfv a b => Laws.SpellsItsRow.mfv a b
  | .slSet x level => Laws.SpellsItsRow.slSet x level
  | .slListen x => Laws.SpellsItsRow.slListen x
  | .slRdh x => Laws.SpellsItsRow.slRdh x
  | .slRdl x => Laws.SpellsItsRow.slRdl x

/-- A word that spells a row of the map is the word of an instruction of that row. -/
theorem encode_of_spelledBy (hr : r ∈ opcodeMap) (h : r.spelledBy w = true) :
    ∃ i, encode i = w ∧ i.mnemonic = r.mnemonic := by
  obtain ⟨hkind, hbits⟩ : r.kind = w.kind ∧ w.bits &&& r.mask = r.pattern := by
    simpa [OpRow.spelledBy] using h
  simp only [opcodeMap, List.mem_cons, List.not_mem_nil, or_false] at hr
  -- `cases hkind` leaves, row by row, the words of the row's own kind.
  obtain rfl | rfl | rfl | rfl | rfl | rfl | rfl | rfl | rfl := hr <;> cases w <;> cases hkind
  · exact ⟨.begin, congrArg _ (hbits.symm.trans BitVec.and_allOnes), rfl⟩
  · obtain ⟨hop, hzero, -⟩ := append_append_eq_slices_iff.1 (append_of_masked (a := 2#4 ++ 0#20) (l := 8) hbits)
    exact ⟨.request _, encode_request_eq_iff.2 ⟨hop, hzero, rfl⟩, rfl⟩
  · exact ⟨.isqc, congrArg _ (hbits.symm.trans BitVec.and_allOnes), rfl⟩
  · obtain ⟨hop, hzero, -⟩ := append_append_eq_slices_iff.1 (append_of_masked (a := 4#4 ++ 0#20) (l := 8) hbits)
    exact ⟨.getmode _ _, encode_getmode_eq_iff.2 ⟨hop, hzero, rfl, rfl⟩, rfl⟩
  · obtain ⟨hop, hzero, -⟩ := append_append_eq_slices_iff.1 (append_of_masked (a := 5#4 ++ 0#4) (l := 24) hbits)
    exact ⟨.mfv _ _, encode_mfv_eq_iff.2 ⟨hop, hzero, rfl, rfl⟩, rfl⟩
  next u =>
    exact ⟨.slSet (.ofIndex (u.extractLsb' 3 1)) (.ofCode (u.extractLsb' 0 2)), by revert u; decide, rfl⟩
  next u => exact ⟨.slListen (.ofIndex (u.extractLsb' 3 1)), by revert u; decide, rfl⟩
  next u => exact ⟨.slRdh (.ofIndex (u.extractLsb' 3 1)), by revert u; decide, rfl⟩
  next u => exact ⟨.slRdl (.ofIndex (u.extractLsb' 3 1)), by revert u; decide, rfl⟩

/-- A word spells a row of the map exactly when it is the word of an instruction of that row. -/
theorem spelledBy_iff (hr : r ∈ opcodeMap) :
    r.spelledBy w = true ↔ ∃ i, decode w = .ok i ∧ i.mnemonic = r.mnemonic := by
  simp only [decode_eq_ok_iff]
  constructor
  · exact encode_of_spelledBy hr
  · rintro ⟨i, rfl, hi⟩
    obtain ⟨r', hr', hm, hs⟩ := encode_spells_row i
    rwa [opcodeMap_mnemonic_injective r hr r' hr' (hi.symm.trans hm.symm)]

/-- The rows of the map with an instruction's mnemonic. -/
theorem opcodeMap_filter_mnemonic (i : Instr) :
    (opcodeMap.filter (·.mnemonic = i.mnemonic)).map (·.mnemonic) = [i.mnemonic] := by
  cases i <;> rfl

/-- Settles O3: a row is spelled exactly when the decoded instruction has its mnemonic, and one row has it. -/
theorem decodeAgreesWithTheOpcodeMap : Obligations.DecodeAgreesWithTheOpcodeMap := by
  intro w
  constructor
  · intro i hi
    rw [← opcodeMap_filter_mnemonic i]
    refine congrArg _ (List.filter_congr fun r hr => ?_)
    rw [Bool.eq_iff_iff, spelledBy_iff hr, decide_eq_true_iff, eq_comm (a := r.mnemonic)]
    simp [hi]
  · intro e he
    refine List.filter_eq_nil_iff.2 fun r hr hs => ?_
    obtain ⟨i, hi, -⟩ := (spelledBy_iff hr).1 hs
    exact absurd (hi.symm.trans he) nofun
end OpcodeMap

end Sys2Proof
end
section
/-! Which steps are refused (R83 of 30_encoding.md, R30 of 10_state.md, R205 of 45_sequencer.md). -/

namespace Sys2Proof.Machine
variable {s : State} {r : Refusal}

theorem andThen_eq_refused {o : Result} {k : State → Result} :
    andThen o k = .refused r ↔ o = .refused r ∨ ∃ m, o = .next m ∧ k m = .refused r := by
  cases o <;> simp [andThen]

/-- What only ends the tick refuses nothing. -/
theorem andThen_next_eq_refused {o : Result} {f : State → State} :
    (andThen o fun m => .next (f m)) = .refused r ↔ o = .refused r := by
  simp [andThen_eq_refused]

/-- Every instruction has a meaning in every state. -/
theorem exec_ne_refused (i : Instr) (s : State) : exec i s ≠ .refused r := by
  cases i with
  | request marg =>
    simp only [exec, execRequest]
    split <;> nofun
  | begin | isqc | getmode | mfv | slSet | slListen | slRdh | slRdl => nofun

theorem accept_ne_refused (w : CmdWord) (s : State) : accept w s ≠ .refused r := by
  unfold accept
  split
  · exact exec_ne_refused _ _
  · nofun

theorem stepReady_ne_refused (s : State) : stepReady s ≠ .refused r := by
  unfold stepReady
  split
  · exact accept_ne_refused _ _
  · nofun

/-- The line drivers refuse exactly the reserved word (R83). -/
theorem issue_eq_refused_iff {u : UopWord} :
    issue u s = .refused r ↔ r = .reservedMicroOp ∧ u.extractLsb' 0 3 = 0b111 := by
  unfold issue
  cases hd : decodeUop u with
  | ok i =>
    refine iff_of_false (exec_ne_refused i s) ?_
    rintro ⟨-, hu⟩
    cases hd.symm.trans (decodeUop_eq_error_iff.2 ⟨rfl, hu⟩)
  | error e => simp [(decodeUop_eq_error_iff.1 hd).2, eq_comm]

/-- The sequencer refuses exactly a driving step of REQUEST whose mode has no row (log 8). -/
theorem sequencerStep_eq_refused_iff :
    sequencerStep s = .refused r ↔
      r = .noRequestRow ∧ (s.seq = .qSetDp ∨ s.seq = .qSetDm) ∧ requestTable s.reqMode = none := by
  cases hq : s.seq with
  | ready => simp [sequencerStep_ready hq, stepReady_ne_refused]
  | bLsnDm => simp [sequencerStep_bLsnDm hq]
  | bHiDp => simp [sequencerStep_bHiDp hq]
  | bSmp1 => simp [sequencerStep_bSmp1 hq]
  | bGliDp => simp [sequencerStep_bGliDp hq]
  | bHi2Dp => simp [sequencerStep_bHi2Dp hq]
  | bSmp2 => simp [sequencerStep_bSmp2 hq]
  | qLsnDp => simp [sequencerStep_qLsnDp hq]
  | qLsnDm => simp [sequencerStep_qLsnDm hq]
  | qSetDp =>
    cases hr : requestTable s.reqMode with
    | none => simp [sequencerStep_noRow (.inl hq) hr, eq_comm]
    | some row => simp [sequencerStep_qSetDp hq hr]
  | qSetDm =>
    cases hr : requestTable s.reqMode with
    | none => simp [sequencerStep_noRow (.inr hq) hr, eq_comm]
    | some row => simp [sequencerStep_qSetDm hq hr]
  | gRdDp => simp [sequencerStep_gRdDp hq]
  | gRdDm => simp [sequencerStep_gRdDm hq]
  | gCls => simp [sequencerStep_gCls hq]
  | bWait1 | bWait2 | bWait3 | qWait | gWait =>
    obtain ⟨succ, hw⟩ : ∃ succ, s.seq.waitSuccessor = some succ := ⟨_, congrArg Seq.waitSuccessor hq⟩
    simp [sequencerStep_wait hw]

/-- The words of the sequencer are never reserved: each of them runs. -/
theorem issued_not_reserved {u : UopWord} (h : issued s = .word u) : u.extractLsb' 0 3 ≠ 0b111 := by
  intro hu
  have href : sequencerStep s = .refused .reservedMicroOp := by
    simp [sequencerStep, h, (issue_eq_refused_iff (s := s)).2 ⟨rfl, hu⟩]
  cases (sequencerStep_eq_refused_iff.1 href).1

/-- Settles O6: the two refusals of `issue` and `sequencerStep` are the only ones, and the tick's frame adds none. -/
theorem refusalsAreTheTwoNamedOnes : Obligations.RefusalsAreTheTwoNamedOnes := by
  refine ⟨fun u => by simp [decodeUop_eq_error_iff], fun s u h => issued_not_reserved h, fun s r => ?_⟩
  cases hr : s.input.rst with
  | true => simp [step_reset hr]
  | false =>
    cases hb : s.bench with
    | some u => simp [step_bench hr hb, andThen_next_eq_refused, issue_eq_refused_iff]
    | none => simp [step_sequencer hr hb, andThen_next_eq_refused, sequencerStep_eq_refused_iff]
end Sys2Proof.Machine
end
section
/-! The Signal Line (R100 to R107 of 40_signal_line.md): what each micro-operation does to a line, and that nothing
else writes one. An instruction that moves a line is a `LineWrite`; the read-back law and the writer rule are its two
uses, over a list of instructions and over a tick. -/

namespace Sys2Proof.Machine
variable {s t : State} {x : Line}

section MicroOperations
/-- The pin values of a level determine it: they are the level a driven line shows (R102 of 40_signal_line.md). -/
theorem pins_eq_iff_symbolic (l h : Bool) (level : Level) :
    level.lowPin = l ∧ level.highPin = h ↔ LineReg.symbolic ⟨true, l, h⟩ = some level := by
  rw [symbolic_eq_some_iff]
  simp [eq_comm, and_comm]

/-- A driven line always shows a level. -/
theorem exists_symbolic_of_driven (l h : Bool) : ∃ level, LineReg.symbolic ⟨true, l, h⟩ = some level := by
  cases l <;> cases h <;> exact ⟨_, rfl⟩

/-- Settles O10: the table row by row; a pair of pins is the level a line driven with that pair shows. -/
theorem levelTruthTable : Obligations.LevelTruthTable := by
  refine ⟨fun level => by cases level <;> rfl, fun l h => ?_⟩
  simp only [pins_eq_iff_symbolic]
  obtain ⟨level, hl⟩ := exists_symbolic_of_driven l h
  exact ⟨level, hl, fun level' hl' => Option.some.inj (hl'.symm.trans hl)⟩

/-- The code of a level is its two pins, low-pin first, so the word of SL.SET shows them (R75, R80 of
30_encoding.md). -/
theorem encode_slSet_eq_pins (x : Line) (level : Level) :
    encode (.slSet x level) =
      .uop (x.index ++ 0#1 ++ BitVec.ofBool level.lowPin ++ BitVec.ofBool level.highPin) := by
  cases x <;> cases level <;> rfl

/-- Settles O11: the word by the pins of the level, the next state by the meaning of SL.SET on each line. -/
theorem setLevelDrivesBothPins : Obligations.SetLevelDrivesBothPins :=
  fun _ level => ⟨encode_slSet_eq_pins .dp level, encode_slSet_eq_pins .dm level, rfl, rfl⟩

/-- Settles O12: words and next states by the meaning of SL.LISTEN on each line. -/
theorem listenReleasesBothPins : Obligations.ListenReleasesBothPins :=
  fun _ => ⟨rfl, rfl, rfl, rfl⟩

theorem exec_slRdh (x : Line) (s : State) : exec (.slRdh x) s = .next { s with readBit := pinIn s x .h } := rfl
theorem exec_slRdl (x : Line) (s : State) : exec (.slRdl x) s = .next { s with readBit := pinIn s x .l } := rfl

/-- Settles O13: each read delivers `PinIn` of its pin, which is read off line by line. -/
theorem pinReadsReturnPinIn : Obligations.PinReadsReturnPinIn := by
  intro s x
  rw [exec_slRdh, exec_slRdl]
  cases x <;> exact ⟨rfl, rfl, rfl, rfl⟩
end MicroOperations

section Writers
/-- `LineWrite x i r r'`: the instruction is SL.SET or SL.LISTEN of `x`, and takes the line's record from `r` to
`r'`. -/
def LineWrite (x : Line) (i : Instr) (r r' : LineReg) : Prop :=
  (∃ level, i = .slSet x level ∧ r' = level.driven) ∨ (i = .slListen x ∧ r' = r.released)

/-- All an instruction can do to a line. -/
theorem exec_line {i : Instr} (h : exec i s = .next t) (x : Line) :
    t.line x = s.line x ∨ LineWrite x i (s.line x) (t.line x) := by
  cases i with
  | slSet y level =>
    cases h
    by_cases hy : y = x
    · subst hy
      exact .inr (.inl ⟨level, rfl, by simp [setLevel_line]⟩)
    · exact .inl (by simp [setLevel_line, hy])
  | slListen y =>
    cases h
    by_cases hy : y = x
    · subst hy
      exact .inr (.inr ⟨rfl, by simp [setListen_line]⟩)
    · exact .inl (by simp [setListen_line, hy])
  | request marg =>
    simp only [exec, execRequest] at h
    split at h <;> cases h <;> exact .inl rfl
  | begin | isqc | getmode | mfv | slRdh | slRdl => cases h; exact .inl rfl

/-- Every instruction completes (R13 of 00_scope.md: nothing traps or halts). -/
theorem exec_answers (i : Instr) (s : State) : ∃ t, exec i s = .next t := by
  cases h : exec i s with
  | next t => exact ⟨t, rfl⟩
  | fault f => cases f
  | refused r => exact absurd h (exec_ne_refused i s)

/-- Instructions that neither set nor release a line complete and leave it as it is. -/
theorem execAll_keeps_line {is : List Instr} (hx : ∀ i ∈ is, (∀ level, i ≠ .slSet x level) ∧ i ≠ .slListen x)
    (s : State) : ∃ t, execAll is s = .next t ∧ t.line x = s.line x := by
  induction is generalizing s with
  | nil => exact ⟨s, rfl, rfl⟩
  | cons i rest ih =>
    obtain ⟨hi, hrest⟩ := List.forall_mem_cons.1 hx
    obtain ⟨m, hm⟩ := exec_answers i s
    have hkept : m.line x = s.line x := by
      obtain hkept | ⟨level, hset, -⟩ | ⟨hlisten, -⟩ := exec_line hm x
      · exact hkept
      · exact absurd hset (hi.1 level)
      · exact absurd hlisten hi.2
    obtain ⟨t, ht, hl⟩ := ih hrest m
    exact ⟨t, by rw [execAll, hm, andThen_next, ht], hl.trans hkept⟩

/-- Settles O14: the instructions after the SL.SET keep the driven record, and a driven pin reads what it drives. -/
theorem drivenLineReadsBackItsLevel : Obligations.DrivenLineReadsBackItsLevel := by
  intro before after s s0 x level hbefore hafter
  obtain ⟨t, ht, hkept⟩ := execAll_keeps_line hafter (setLevel x level s0)
  have hline : t.line x = level.driven := by simp [hkept, setLevel_line]
  have hpin (half : Half) : pinIn t x half = level.driven.half half := by
    rw [pinIn_driven (by simp [hline]), hline]
  refine ⟨t, ?_, by rw [exec_slRdh, hpin]; rfl, by rw [exec_slRdl, hpin]; rfl⟩
  rw [execAll_append, hbefore]
  exact ht

/-- A command touches no line in the tick that accepts it (R101 of 40_signal_line.md). -/
theorem exec_command_line {w : CmdWord} {i : Instr} (hd : decodeCmd w = .ok i) (h : exec i s = .next t) :
    t.line x = s.line x := by
  obtain hkept | ⟨_, rfl, -⟩ | ⟨rfl, -⟩ := exec_line h x
  · exact hkept
  · cases decodeCmd_eq_ok_iff.1 hd
  · cases decodeCmd_eq_ok_iff.1 hd

theorem waitTick_line (succ : Seq) (s : State) : (waitTick succ s).line x = s.line x := by
  rcases waitTick_cases succ s with ⟨_, h⟩ | ⟨_, h⟩ <;> rw [h] <;> rfl

/-- A micro-step's own writes touch no line: only the word it issues can. -/
theorem microStep_line {q : Seq} (h : microStep q s = .next t) : t.line x = s.line x := by
  cases q with
  | ready =>
    simp only [microStep, stepReady] at h
    split at h
    · unfold accept at h
      split at h
      case h_1 hd => exact (exec_command_line hd h).trans rfl
      case h_2 => cases h; rfl
    · cases h; rfl
  | bSmp1 => cases h; unfold stepBSmp1; split <;> rfl
  | bSmp2 => cases h; unfold stepBSmp2; split <;> rfl
  | bWait1 | bWait2 | bWait3 | qWait | gWait => cases h; exact waitTick_line _ _
  | bLsnDm | bHiDp | bGliDp | bHi2Dp | qLsnDp | qLsnDm | qSetDp | qSetDm | gRdDp | gRdDm | gCls => cases h; rfl

/-- A word that changes a line decodes to an SL.SET or SL.LISTEN of it. -/
theorem issue_line_write {u : UopWord} (h : issue u s = .next t) (hne : t.line x ≠ s.line x) :
    ∃ i, decodeUop u = .ok i ∧ LineWrite x i (s.line x) (t.line x) := by
  unfold issue at h
  split at h
  case h_1 i hd => exact ⟨i, hd, (exec_line h x).resolve_left hne⟩
  case h_2 => cases h

/-- A sequencer step that changes a line issues a word that does. -/
theorem sequencerStep_line_write (h : sequencerStep s = .next t) (hne : t.line x ≠ s.line x) :
    ∃ u i, issued s = .word u ∧ decodeUop u = .ok i ∧ LineWrite x i (s.line x) (t.line x) := by
  unfold sequencerStep at h
  split at h
  case h_1 => exact absurd (microStep_line h) hne
  case h_2 u hu =>
    obtain ⟨m, hm, ht⟩ := andThen_eq_next.1 h
    have hline : t.line x = m.line x := microStep_line ht
    rw [hline] at hne ⊢
    obtain ⟨i, hd, hw⟩ := issue_line_write hm hne
    exact ⟨u, i, hu, hd, hw⟩
  case h_3 => cases h

/-- Settles O15: the tick's own word, from `bench` or from the sequencer, is the write; its frame touches no line. -/
theorem linesChangeOnlyByMicroOperations : Obligations.LinesChangeOnlyByMicroOperations := by
  intro s t x h hr hne
  obtain ⟨hr', -⟩ | ⟨-, u, m, hb, hm, rfl⟩ | ⟨-, hb, m, hm, rfl⟩ := step_cases h
  · exact absurd (hr.symm.trans hr') Bool.false_ne_true
  · obtain ⟨i, hd, hw⟩ := issue_line_write hm hne
    exact ⟨u, i, .inl hb, hd, hw⟩
  · obtain ⟨u, i, hu, hd, hw⟩ := sequencerStep_line_write hm hne
    exact ⟨u, i, .inr ⟨hb, hu⟩, hd, hw⟩
end Writers

end Sys2Proof.Machine
end
section
/-! BEGIN (41_handshake_begin.md), tick by tick and as a whole. Each sequencer state of BEGIN has a lemma with its whole
next state; a run is put together from them. In a run nothing but the sequencer acts (`Undisturbed`), every tick of
such a run leaves the rest of it undisturbed, and a wait is one lemma, so a command is a list of its steps. -/

namespace Sys2Proof.Machine
variable {s t m : State}

section Words
/-- The word a sequencer state issues depends on `seq` and, in the driving states of REQUEST, on `req_mode`. -/
theorem issued_of_seq {q : Seq} (hq : s.seq = q) : issued s = issued { s with seq := q } := by
  subst hq
  rfl

theorem encode_slSet_eq_setWord (x : Line) (level : Level) : encode (.slSet x level) = .uop (setWord x level) := rfl

/-- Settles O28: state by state, the issued word is the word of the instruction the rule names. -/
theorem eachStepIssuesItsWord : Obligations.EachStepIssuesItsWord := by
  rintro s _ rfl
  cases hq : s.seq with
  | bLsnDm | bHiDp | bSmp1 | bGliDp | bHi2Dp | bSmp2 | qLsnDp | qLsnDm => exact ⟨_, issued_of_seq hq, rfl⟩
  | qSetDp => exact fun p q hr => ⟨setWord .dp p, by simp [issued, hq, hr], encode_slSet_eq_setWord .dp p⟩
  | qSetDm => exact fun p q hr => ⟨setWord .dm q, by simp [issued, hq, hr], encode_slSet_eq_setWord .dm q⟩
  | ready | bWait1 | bWait2 | bWait3 | qWait | gRdDp | gRdDm | gWait | gCls => exact issued_of_seq hq
end Words

section Steps
/-- A tick of the sequencer inside its frame (R205, R207 of 45_sequencer.md). -/
theorem State.AtStep.step_eq {q : Seq} (h : s.AtStep q) (hm : sequencerStep (tickStart s) = .next m) :
    step s = .next { m with inputs := m.inputs.drop 1, tick := m.tick + 1 } := by
  rw [step_sequencer h.noReset h.bench, hm, List.drop_one]
  rfl

/-- Settles O16: the meaning of BEGIN is its acceptance. -/
theorem beginAcceptanceOnlyStarts : Obligations.BeginAcceptanceOnlyStarts := fun _ => rfl

/-- READY with BEGIN offered (R120, R206). -/
theorem sequencerStep_begin (hq : s.seq = .ready) (ho : Offers s 0 0x10000000) :
    sequencerStep s = .next { s with ir := 0x10000000, seq := .bLsnDm } := by
  obtain ⟨hv, hc⟩ := ho
  rw [inputAt_zero] at hv hc
  rw [sequencerStep_ready hq, stepReady, if_pos hv, hc]
  exact beginAcceptanceOnlyStarts (latchCommand 0x10000000 s)

theorem step_begin (h : s.AtStep .ready) (ho : Offers s 0 0x10000000) :
    step s = .next { ticked 1 s with ir := 0x10000000, seq := .bLsnDm } :=
  h.step_eq (sequencerStep_begin (s := tickStart s) h.seq ho)

theorem step_bLsnDm (h : s.AtStep .bLsnDm) : step s = .next { ticked 1 s with
    hs := .probeListen, lineDm := { s.lineDm with oe := false }, seq := .bHiDp } :=
  h.step_eq (sequencerStep_bLsnDm h.seq)

theorem step_bHiDp (h : s.AtStep .bHiDp) : step s = .next { ticked 1 s with
    lineDp := ⟨true, true, true⟩, timer := s.cfg.tSettle, seq := .bWait1 } :=
  h.step_eq (sequencerStep_bHiDp h.seq)

theorem step_bGliDp (h : s.AtStep .bGliDp) : step s = .next { ticked 1 s with
    hs := .probeGlitch, lineDp := ⟨true, false, true⟩, timer := s.cfg.tGlitch, seq := .bWait2 } :=
  h.step_eq (sequencerStep_bGliDp h.seq)

theorem step_bHi2Dp (h : s.AtStep .bHi2Dp) : step s = .next { ticked 1 s with
    hs := .probeRecheck, lineDp := ⟨true, true, true⟩, timer := s.cfg.tSettle, seq := .bWait3 } :=
  h.step_eq (sequencerStep_bHi2Dp h.seq)

/-- The first sample reads low (R126). -/
theorem sequencerStep_bSmp1_low (hq : s.seq = .bSmp1) (hp : pinIn s .dm .h = false) :
    sequencerStep s = .next (fallBack (deliverRead false s)) := by
  rw [sequencerStep_bSmp1 hq, hp]
  rfl

/-- The first sample reads high (R127). -/
theorem sequencerStep_bSmp1_high (hq : s.seq = .bSmp1) (hp : pinIn s .dm .h = true) :
    sequencerStep s = .next (goto .bGliDp (deliverRead true s)) := by
  rw [sequencerStep_bSmp1 hq, hp]
  rfl

/-- The second sample reads low (R133). -/
theorem sequencerStep_bSmp2_low (hq : s.seq = .bSmp2) (hp : pinIn s .dm .h = false) :
    sequencerStep s = .next (goto .qLsnDp { deliverRead false s with qc := true, reqMode := .qc5v, lnk := true }) := by
  rw [sequencerStep_bSmp2 hq, hp]
  rfl

/-- The second sample reads high (R134). -/
theorem sequencerStep_bSmp2_high (hq : s.seq = .bSmp2) (hp : pinIn s .dm .h = true) :
    sequencerStep s = .next (fallBack (deliverRead true s)) := by
  rw [sequencerStep_bSmp2 hq, hp]
  rfl

theorem step_bSmp1_low (h : s.AtStep .bSmp1) (hp : pinIn s .dm .h = false) : step s = .next { ticked 1 s with
    readBit := false, mode := .generic5v, qc := false, hs := .fallback, seq := .ready,
    respValid := true, respStatus := .ok, respData := 1 } :=
  h.step_eq (sequencerStep_bSmp1_low (s := tickStart s) h.seq hp)

theorem step_bSmp1_high (h : s.AtStep .bSmp1) (hp : pinIn s .dm .h = true) :
    step s = .next { ticked 1 s with readBit := true, seq := .bGliDp } :=
  h.step_eq (sequencerStep_bSmp1_high (s := tickStart s) h.seq hp)

theorem step_bSmp2_low (h : s.AtStep .bSmp2) (hp : pinIn s .dm .h = false) : step s = .next { ticked 1 s with
    readBit := false, qc := true, reqMode := .qc5v, lnk := true, seq := .qLsnDp } :=
  h.step_eq (sequencerStep_bSmp2_low (s := tickStart s) h.seq hp)

theorem step_bSmp2_high (h : s.AtStep .bSmp2) (hp : pinIn s .dm .h = true) : step s = .next { ticked 1 s with
    readBit := true, mode := .generic5v, qc := false, hs := .fallback, seq := .ready,
    respValid := true, respStatus := .ok, respData := 1 } :=
  h.step_eq (sequencerStep_bSmp2_high (s := tickStart s) h.seq hp)

theorem step_qLsnDp (h : s.AtStep .qLsnDp) : step s = .next { ticked 1 s with
    lineDp := { s.lineDp with oe := false }, seq := .qLsnDm } :=
  h.step_eq (sequencerStep_qLsnDp h.seq)

theorem step_qLsnDm (h : s.AtStep .qLsnDm) : step s = .next { ticked 1 s with
    lineDm := { s.lineDm with oe := false }, timer := s.cfg.tSettle, seq := .qWait } :=
  h.step_eq (sequencerStep_qLsnDm h.seq)

theorem step_qSetDp (h : s.AtStep .qSetDp) {p q : Level} (hr : requestTable s.reqMode = some (p, q)) :
    step s = .next { ticked 1 s with lineDp := p.driven, seq := .qSetDm } :=
  h.step_eq (sequencerStep_qSetDp (s := tickStart s) h.seq hr)

theorem step_qSetDm (h : s.AtStep .qSetDm) {p q : Level} (hr : requestTable s.reqMode = some (p, q)) :
    step s = .next { ticked 1 s with
      lineDm := q.driven, mode := s.reqMode, hs := if s.lnk then .established else s.hs, lnk := false,
      seq := .ready, respValid := true, respStatus := .ok, respData := s.reqMode.code } :=
  h.step_eq (sequencerStep_qSetDm (s := tickStart s) h.seq hr)

/-- One tick of a wait state (R210 of 45_sequencer.md). -/
theorem step_wait {q succ : Seq} (h : s.AtStep q) (hw : q.waitSuccessor = some succ) :
    step s = .next (if 1 < s.timer.toNat then { ticked 1 s with timer := s.timer - 1 }
      else { ticked 1 s with timer := 0, seq := succ }) := by
  obtain rfl := h.seq
  rw [h.step_eq (sequencerStep_wait (s := tickStart s) hw), waitTick, tickStart_timer]
  split <;> rfl

/-- Settles O23: the word of each driving state with its step. -/
theorem beginDrivingSteps : Obligations.BeginDrivingSteps := fun _ =>
  ⟨fun h => ⟨issued_of_seq h.seq, step_bLsnDm h⟩, fun h => ⟨issued_of_seq h.seq, step_bHiDp h⟩,
    fun h => ⟨issued_of_seq h.seq, step_bGliDp h⟩, fun h => ⟨issued_of_seq h.seq, step_bHi2Dp h⟩⟩

/-- Settles O24: the sample is `PinIn` of D-'s high-pin, and each of its values has its step. -/
theorem firstSampleDecides : Obligations.FirstSampleDecides := by
  refine fun s h => ⟨pinIn s .dm .h, rfl, fun hp => ?_, fun hp => ?_⟩
  · rw [hp]
    exact step_bSmp1_low h hp
  · rw [hp]
    exact step_bSmp1_high h hp

/-- Settles O25: the sample is `PinIn` of D-'s high-pin, and each of its values has its step. -/
theorem secondSampleDecides : Obligations.SecondSampleDecides := by
  refine fun s h => ⟨pinIn s .dm .h, rfl, fun hp => ?_, fun hp => ?_⟩
  · rw [hp]
    exact step_bSmp2_low h hp
  · rw [hp]
    exact step_bSmp2_high h hp
end Steps

section Runs
/-- The next `k` ticks are the sequencer's: no reset is asserted and no word is given from outside. -/
structure Undisturbed (k : Nat) (s : State) : Prop where
  bench : s.bench = none
  noReset : NoReset k s

/-- `t` is `k` undisturbed ticks later than `s`, as far as the frame of a tick goes. -/
structure Elapsed (k : Nat) (s t : State) : Prop where
  bench : t.bench = none
  inputs : t.inputs = s.inputs.drop k
  tick : t.tick = s.tick + k
  cfg : t.cfg = s.cfg

variable {j k : Nat} {o : Result}

theorem Undisturbed.atStep {q : Seq} (h : Undisturbed (k + 1) s) (hq : s.seq = q) : s.AtStep q :=
  ⟨hq, h.bench, h.noReset 0 k.succ_pos⟩

theorem Undisturbed.mono (h : Undisturbed k s) (hjk : j ≤ k) : Undisturbed j s :=
  ⟨h.bench, fun i hi => h.noReset i (hi.trans_le hjk)⟩

theorem Elapsed.trans (h₁ : Elapsed j s m) (h₂ : Elapsed k m t) : Elapsed (j + k) s t where
  bench := h₂.bench
  inputs := by rw [h₂.inputs, h₁.inputs, List.drop_drop]
  tick := by rw [h₂.tick, h₁.tick, Nat.add_assoc]
  cfg := h₂.cfg.trans h₁.cfg

/-- The inputs that are left are the ones that were ahead. -/
theorem Elapsed.inputAt (h : Elapsed j s t) (i : Nat) : t.inputAt i = s.inputAt (j + i) := by
  simp [State.inputAt, h.inputs, h.tick, h.cfg, List.getD_eq_getElem?_getD, Nat.add_assoc]

theorem Elapsed.undisturbed (h : Elapsed j s t) (hs : Undisturbed (j + k) s) : Undisturbed k t where
  bench := h.bench
  noReset i hi := by
    rw [h.inputAt]
    exact hs.noReset (j + i) (Nat.add_lt_add_left hi j)

/-- No move of the sequencer writes what the frame of a tick reads. -/
theorem move_frame (h : SeqMove s m) :
    m.inputs = s.inputs ∧ m.tick = s.tick ∧ m.cfg = s.cfg ∧ m.bench = s.bench := by
  cases h <;> exact ⟨rfl, rfl, rfl, rfl⟩

theorem State.AtStep.elapsed {q : Seq} (h : s.AtStep q) (ht : step s = .next t) : Elapsed 1 s t := by
  obtain ⟨u, _, _, _, hu, -⟩ | ⟨-, m, hm, rfl⟩ := step_move ht h.noReset
  · cases h.bench.symm.trans hu
  · obtain ⟨hinputs, htick, hcfg, hbench⟩ := move_frame hm
    exact ⟨hbench.trans h.bench, by rw [tickEnd_inputs, hinputs, List.drop_one]; rfl,
      congrArg (· + 1) htick, hcfg⟩

theorem Undisturbed.elapsed (h : Undisturbed k s) (ht : ticks k s = .next t) : Elapsed k s t := by
  induction k generalizing s with
  | zero =>
    cases ht
    exact ⟨h.bench, rfl, rfl, rfl⟩
  | succ k ih =>
    obtain ⟨m, hm, ht⟩ := andThen_eq_next.1 ht
    have hfirst : Elapsed 1 s m := (h.atStep rfl).elapsed hm
    rw [Nat.add_comm k 1] at h ⊢
    exact hfirst.trans (ih (hfirst.undisturbed h) ht)

/-- What is left of an undisturbed run after a tick. -/
theorem Undisturbed.tick (h : Undisturbed (k + 1) s) (ht : step s = .next t) : Undisturbed k t :=
  ((h.atStep rfl).elapsed ht).undisturbed (Nat.add_comm k 1 ▸ h)

/-- What is left of an undisturbed run after `j` ticks. -/
theorem Undisturbed.after (h : Undisturbed (j + k) s) (ht : ticks j s = .next t) : Undisturbed k t :=
  ((h.mono (Nat.le_add_right j k)).elapsed ht).undisturbed h

/-- The state a run ends in, with its frame written from where the run began. -/
theorem Undisturbed.ticks_eq (h : Undisturbed k s) (ht : ticks k s = .next t) :
    ticks k s = .next { t with inputs := s.inputs.drop k, tick := s.tick + k } := by
  rw [← (h.elapsed ht).inputs, ← (h.elapsed ht).tick, ht]

/-- After some ticks of an undisturbed run, a released D- reads the outside of the tick that is reached. -/
theorem Undisturbed.pinIn_dm (h : Undisturbed j s) (ht : ticks j s = .next t) (hoe : t.lineDm.oe = false) :
    pinIn t .dm .h = (s.inputAt j).extDmH := by
  have hinput : t.input = s.inputAt j := (h.elapsed ht).inputAt 0
  rw [pinIn_released (x := .dm) hoe, hinput]
  rfl

theorem ticks_succ_of_step (h : step s = .next m) (ho : ticks k m = o) : ticks (k + 1) s = o := by
  rw [ticks, h, andThen_next, ho]

theorem ticks_add_of_ticks (h : ticks j s = .next m) (ho : ticks k m = o) : ticks (j + k) s = o := by
  rw [ticks_add, h, andThen_next, ho]

theorem waitTicks_pred {n : Ticks} (h : 1 < n.toNat) : waitTicks (n - 1) + 1 = waitTicks n := by
  rw [waitTicks, waitTicks, timer_pred_toNat h]
  omega

/-- A whole wait as one move (R210, R216 of 45_sequencer.md). -/
theorem ticks_wait {succ : Seq} (h : Undisturbed k s) (hw : s.seq.waitSuccessor = some succ)
    (hk : waitTicks s.timer = k) : ticks k s = .next { ticked k s with timer := 0, seq := succ } := by
  induction k generalizing s with
  | zero => simp [waitTicks] at hk
  | succ k ih =>
    have hstep := step_wait (h.atStep rfl) hw
    by_cases ht : 1 < s.timer.toNat
    · rw [if_pos ht] at hstep
      have hleft : waitTicks (s.timer - 1) = k := Nat.succ.inj ((waitTicks_pred ht).trans hk)
      exact h.ticks_eq (ticks_succ_of_step hstep (ih (h.tick hstep) hw hleft))
    · rw [if_neg ht] at hstep
      obtain rfl : k = 0 := by rw [waitTicks] at hk; omega
      exact ticks_succ_of_step hstep rfl
end Runs

section Phases
variable {ts tg : Nat}

/-- BEGIN up to its first sample (R120 to R124). -/
theorem ticks_toFirstSample (h : Undisturbed (ts + 3) s) (hq : s.seq = .ready) (ho : Offers s 0 0x10000000)
    (hts : waitTicks s.cfg.tSettle = ts) :
    ticks (ts + 3) s = .next { ticked (ts + 3) s with
      hs := .probeListen, lineDp := ⟨true, true, true⟩, lineDm := { s.lineDm with oe := false }, timer := 0,
      ir := 0x10000000, seq := .bSmp1 } := by
  have h1 := step_begin (h.atStep hq) ho
  have u1 := h.tick h1
  have h2 := step_bLsnDm (u1.atStep rfl)
  have u2 := u1.tick h2
  have h3 := step_bHiDp (u2.atStep rfl)
  have h4 := ticks_wait (u2.tick h3) rfl hts
  exact h.ticks_eq (ticks_succ_of_step h1 (ticks_succ_of_step h2 (ticks_succ_of_step h3 h4)))

/-- BEGIN from the glitch to its second sample (R128 to R131). -/
theorem ticks_glitchToSecondSample (h : Undisturbed (tg + (ts + 1) + 1) s) (hq : s.seq = .bGliDp)
    (hts : waitTicks s.cfg.tSettle = ts) (htg : waitTicks s.cfg.tGlitch = tg) :
    ticks (tg + (ts + 1) + 1) s = .next { ticked (tg + (ts + 1) + 1) s with
      hs := .probeRecheck, lineDp := ⟨true, true, true⟩, timer := 0, seq := .bSmp2 } := by
  have h1 := step_bGliDp (h.atStep hq)
  have u1 := h.tick h1
  have h2 := ticks_wait (u1.mono (Nat.le_add_right tg _)) rfl htg
  have u2 := u1.after h2
  have h3 := step_bHi2Dp (u2.atStep rfl)
  have h4 := ticks_wait (u2.tick h3) rfl hts
  exact h.ticks_eq (ticks_succ_of_step h1 (ticks_add_of_ticks h2 (ticks_succ_of_step h3 h4)))

/-- BEGIN up to its second sample, when the first one reads high. -/
theorem ticks_toSecondSample (h : Undisturbed (tg + 2 * ts + 6) s) (hq : s.seq = .ready) (ho : Offers s 0 0x10000000)
    (hts : waitTicks s.cfg.tSettle = ts) (htg : waitTicks s.cfg.tGlitch = tg)
    (hhigh : (s.inputAt (ts + 3)).extDmH = true) :
    ticks (tg + 2 * ts + 6) s = .next { ticked (tg + 2 * ts + 6) s with
      hs := .probeRecheck, lineDp := ⟨true, true, true⟩, lineDm := { s.lineDm with oe := false }, timer := 0,
      ir := 0x10000000, readBit := true, seq := .bSmp2 } := by
  have hn : tg + 2 * ts + 6 = ts + 3 + (tg + (ts + 1) + 1 + 1) := by omega
  rw [hn] at h ⊢
  have u := h.mono (Nat.le_add_right (ts + 3) _)
  have h1 := ticks_toFirstSample u hq ho hts
  have u1 := h.after h1
  have h2 := step_bSmp1_high (u1.atStep rfl) ((u.pinIn_dm h1 rfl).trans hhigh)
  have h3 := ticks_glitchToSecondSample (u1.tick h2) rfl hts htg
  exact h.ticks_eq (ticks_add_of_ticks h1 (ticks_succ_of_step h2 h3))

/-- The REQUEST steps, for the host or for BEGIN (R156 to R160 of 42_mode_request.md). -/
theorem ticks_requestSteps {p q : Level} (h : Undisturbed (ts + 4) s) (hq : s.seq = .qLsnDp)
    (hts : waitTicks s.cfg.tSettle = ts) (hr : requestTable s.reqMode = some (p, q)) :
    ticks (ts + 4) s = .next { ticked (ts + 4) s with
      lineDp := p.driven, lineDm := q.driven, timer := 0, mode := s.reqMode,
      hs := if s.lnk then .established else s.hs, lnk := false, seq := .ready,
      respValid := true, respStatus := .ok, respData := s.reqMode.code } := by
  have h1 := step_qLsnDp (h.atStep hq)
  have u1 := h.tick h1
  have h2 := step_qLsnDm (u1.atStep rfl)
  have u2 := u1.tick h2
  have h3 := ticks_wait (u2.mono (Nat.le_add_right ts _)) rfl hts
  have u3 := u2.after h3
  have h4 := step_qSetDp (u3.atStep rfl) hr
  have h5 := step_qSetDm ((u3.tick h4).atStep rfl) hr
  exact h.ticks_eq (ticks_succ_of_step h1 (ticks_succ_of_step h2 (ticks_add_of_ticks h3
    (ticks_succ_of_step h4 (ticks_succ_of_step h5 rfl)))))
end Phases

/-- Settles O50: the run to the first sample, and the sample reading low. -/
theorem beginWithoutAFarEndFallsBack : Obligations.BeginWithoutAFarEndFallsBack := by
  rintro s ts n hts rfl hready hreset hoffer hlow
  have h : Undisturbed (ts + 3 + 1) s := ⟨hready.bench, hreset⟩
  have u := h.mono (Nat.le_succ _)
  have h1 := ticks_toFirstSample u hready.seq hoffer hts.symm
  have h2 := step_bSmp1_low ((h.after h1).atStep rfl) ((u.pinIn_dm h1 rfl).trans hlow)
  have hend := h.ticks_eq (ticks_add_of_ticks h1 (ticks_succ_of_step h2 rfl))
  rw [← hready.seq] at hend
  exact hend

/-- Settles O51: the run to the second sample, and the sample reading high. -/
theorem beginNotAcknowledgedFallsBack : Obligations.BeginNotAcknowledgedFallsBack := by
  rintro s ts tg n hts htg rfl hready hreset hoffer hfirst hsecond
  have h : Undisturbed (tg + 2 * ts + 6 + 1) s := ⟨hready.bench, hreset⟩
  have u := h.mono (Nat.le_succ _)
  have h1 := ticks_toSecondSample u hready.seq hoffer hts.symm htg.symm hfirst
  have h2 := step_bSmp2_high ((h.after h1).atStep rfl) ((u.pinIn_dm h1 rfl).trans hsecond)
  have hend := h.ticks_eq (ticks_add_of_ticks h1 (ticks_succ_of_step h2 rfl))
  rw [← hready.seq] at hend
  exact hend

/-- Settles O52: the run to the second sample, the sample reading low, and the REQUEST steps for QC-5V. -/
theorem beginAcknowledgedEstablishes : Obligations.BeginAcknowledgedEstablishes := by
  intro s ts tg n hts htg hn hready hreset hoffer hfirst hsecond
  obtain rfl : n = tg + 2 * ts + 6 + (ts + 5) := by omega
  have h : Undisturbed (tg + 2 * ts + 6 + (ts + 5)) s := ⟨hready.bench, hreset⟩
  have u := h.mono (Nat.le_add_right (tg + 2 * ts + 6) _)
  have h1 := ticks_toSecondSample u hready.seq hoffer hts.symm htg.symm hfirst
  have u1 := h.after h1
  have h2 := step_bSmp2_low (u1.atStep rfl) ((u.pinIn_dm h1 rfl).trans hsecond)
  have h3 := ticks_requestSteps (u1.tick h2) rfl hts.symm rfl
  have hend := h.ticks_eq (ticks_add_of_ticks h1 (ticks_succ_of_step h2 h3))
  rw [← hready.seq] at hend
  exact hend
end Sys2Proof.Machine
end
section
/-! REQUEST (42_mode_request.md): its acceptance, its rejections and its run. The word and the operand are compared as
numbers, as R72 and R155 write them; the run is one step of acceptance and then the REQUEST steps that BEGIN runs too. -/

namespace Sys2Proof.Machine
variable {s t : State} {marg : Marg} {md : Mode} {w : CmdWord} {i : Instr} {e : Cond} {p q : Level}

section Operand
/-- The words of REQUEST as numbers (R72 of 30_encoding.md). -/
theorem encode_request_eq_iff_toNat : encode (.request marg) = .cmd w ↔ w.toNat = 0x20000000 + marg.toNat := by
  have hword : (2#4 ++ 0#20 ++ marg).toNat = 0x20000000 + marg.toNat := by
    rw [BitVec.toNat_append, ← Nat.shiftLeft_add_eq_or_of_lt marg.isLt]
    rfl
  rw [encode, AnyWord.cmd.injEq, ← BitVec.toNat_inj, hword, eq_comm]

theorem commandWord_request_toNat (marg : Marg) : (commandWord (.request marg)).toNat = 0x20000000 + marg.toNat :=
  encode_request_eq_iff_toNat.1 rfl

/-- The operands that name no mode to apply (R153, R154). -/
theorem requestedMode_eq_none_iff : requestedMode marg = none ↔ marg.toNat < 2 ∨ 6 < marg.toNat := by
  unfold requestedMode
  split_ifs <;> simp_all
  bv_omega

/-- The three bits of a mode's code as an eight-bit operand (R77 of 30_encoding.md). -/
theorem code_setWidth_toNat (md : Mode) : (md.code.setWidth 8).toNat = md.code.toNat :=
  BitVec.toNat_setWidth_of_le (by decide)

/-- The mode an operand names is the one that has a row and the operand as its code (R155). -/
theorem requestedMode_eq_some_iff :
    requestedMode marg = some md ↔ md.requestable = true ∧ marg.toNat = md.code.toNat := by
  constructor
  · intro h
    refine ⟨requestedMode_requestable h, ?_⟩
    unfold requestedMode at h
    split_ifs at h <;> cases h <;> subst marg <;> rfl
  · rintro ⟨hm, hcode⟩
    obtain rfl : marg = md.code.setWidth 8 := BitVec.eq_of_toNat_eq (hcode.trans (code_setWidth_toNat md).symm)
    cases md with
    | disconnected | generic5v => cases hm
    | qc5v | qc9v | qc12v | qc20v | qcVariable => rfl

theorem ne_zero_of_requestedMode (h : requestedMode marg = some md) : marg ≠ 0 := by
  rintro rfl
  cases h

theorem requestable_of_row (hr : requestTable md = some (p, q)) : md.requestable = true := by
  rw [Mode.requestable, hr, Option.isSome_some]
end Operand

section Acceptance
theorem requestCheck_invMode (h0 : marg ≠ 0) (hm : requestedMode marg = none) :
    requestCheck true marg = .error .invMode := by
  rw [requestCheck, if_neg (by decide), if_neg h0, hm]

theorem requestCheck_passes (hm : requestedMode marg = some md) : requestCheck true marg = .ok md := by
  rw [requestCheck, if_neg (by decide), if_neg (ne_zero_of_requestedMode hm), hm]

/-- A REQUEST that fails a check writes `ir`, `resp_*`, `diag` and `seq` only. -/
theorem exec_request_of_error (hc : requestCheck s.qc marg = .error e) :
    exec (.request marg) s = .next { s with
      ir := commandWord (.request marg), seq := .ready, respValid := true, respStatus := e,
      respData := s.mode.code, diag := e } := by
  rw [exec, execRequest, latchCommand_qc, hc]
  rfl

/-- A REQUEST that passes the checks starts the REQUEST steps. -/
theorem exec_request_of_ok (hc : requestCheck s.qc marg = .ok md) :
    exec (.request marg) s = .next { s with
      ir := commandWord (.request marg), reqMode := md, lnk := false, seq := .qLsnDp } := by
  rw [exec, execRequest, latchCommand_qc, hc]
  rfl

/-- Settles O20: each rejection is the answer to the check that fails first. -/
theorem requestRejectionsInOrder : Obligations.RequestRejectionsInOrder := by
  intro s marg
  refine ⟨_, commandWord_request_toNat marg, fun hqc => ?cap, fun hqc hzero => ?logic, fun hqc hout => ?invMode⟩ <;>
    refine exec_request_of_error ?_ <;> rw [hqc]
  case cap => rfl
  case logic =>
    obtain rfl : marg = 0 := BitVec.eq_of_toNat_eq hzero
    rfl
  case invMode =>
    have hne : marg ≠ 0 := by rintro rfl; simp at hout
    exact requestCheck_invMode hne (requestedMode_eq_none_iff.2 (by omega))

/-- Settles O21: an operand in 2 to 6 names a mode by its code, which its three low bits are. -/
theorem requestStartsTheRequestSteps : Obligations.RequestStartsTheRequestSteps := by
  intro s marg hqc hlo hhi
  cases hm : requestedMode marg with
  | none =>
    have hout := requestedMode_eq_none_iff.1 hm
    omega
  | some md =>
    obtain ⟨hreq, hcode⟩ := requestedMode_eq_some_iff.1 hm
    refine ⟨_, md, commandWord_request_toNat marg, ?_, hreq, exec_request_of_ok (hqc ▸ requestCheck_passes hm)⟩
    apply BitVec.eq_of_toNat_eq
    rw [BitVec.extractLsb'_toNat, hcode, Nat.shiftRight_zero, Nat.mod_eq_of_lt md.code.isLt]
end Acceptance

section Steps
/-- READY with a command offered: the command's meaning, after its word is latched (R206 of 45_sequencer.md). -/
theorem sequencerStep_offered (hq : s.seq = .ready) (ho : Offers s 0 w) (hd : decodeCmd w = .ok i) :
    sequencerStep s = exec i (latchCommand w s) := by
  obtain ⟨hv, hc⟩ := ho
  rw [inputAt_zero] at hv hc
  rw [sequencerStep_ready hq, stepReady, if_pos hv, hc, accept, hd]

/-- READY with a REQUEST offered that passes the checks (R155). -/
theorem step_request (h : s.AtStep .ready) (hqc : s.qc = true) (hm : md.requestable = true)
    (hw : w.toNat = 0x20000000 + md.code.toNat) (ho : Offers s 0 w) :
    step s = .next { ticked 1 s with ir := w, reqMode := md, lnk := false, seq := .qLsnDp } := by
  have hmode : requestedMode (md.code.setWidth 8) = some md :=
    requestedMode_eq_some_iff.2 ⟨hm, code_setWidth_toNat md⟩
  have hword : encode (.request (md.code.setWidth 8)) = .cmd w :=
    encode_request_eq_iff_toNat.2 (by rw [hw, code_setWidth_toNat])
  have hir : commandWord (.request (md.code.setWidth 8)) = w := by rw [commandWord, hword]
  apply h.step_eq (m := { tickStart s with ir := w, reqMode := md, lnk := false, seq := .qLsnDp })
  rw [sequencerStep_offered (s := tickStart s) h.seq ho (decodeCmd_eq_ok_iff.2 hword),
    exec_request_of_ok (md := md) (s := latchCommand w (tickStart s)) (hqc ▸ requestCheck_passes hmode), hir]
  rfl

/-- The word `{ln, 0, l, h}` of SL.SET by the pins of its level (R75, R80 of 30_encoding.md). -/
theorem setWord_eq_pins (x : Line) (level : Level) :
    setWord x level = x.index ++ 0#1 ++ BitVec.ofBool level.lowPin ++ BitVec.ofBool level.highPin :=
  AnyWord.uop.inj (encode_slSet_eq_pins x level)

theorem issued_qSetDp (hq : s.seq = .qSetDp) (hr : requestTable s.reqMode = some (p, q)) :
    issued s = .word (setWord .dp p) := by
  simp [issued, hq, hr]

theorem issued_qSetDm (hq : s.seq = .qSetDm) (hr : requestTable s.reqMode = some (p, q)) :
    issued s = .word (setWord .dm q) := by
  simp [issued, hq, hr]

/-- Settles O26: the word of each step that touches a line, with the step. -/
theorem requestSteps : Obligations.RequestSteps := by
  refine fun s => ⟨fun h => ⟨issued_of_seq h.seq, step_qLsnDp h⟩, fun h => ⟨issued_of_seq h.seq, step_qLsnDm h⟩,
    fun p q hr => ⟨fun h => ⟨?_, step_qSetDp h hr⟩, fun h => ⟨?_, step_qSetDm h hr⟩⟩⟩
  · rw [issued_qSetDp h.seq hr, setWord_eq_pins]
    rfl
  · rw [issued_qSetDm h.seq hr, setWord_eq_pins]
    rfl
end Steps

section Runs
variable {k ts : Nat}

@[simp] theorem ticked_respValid (k : Nat) (s : State) : (ticked k s).respValid = false := rfl

/-- What is offered later is offered in the rest of the run. -/
theorem Elapsed.offers (h : Elapsed k s t) (ho : Offers s k w) : Offers t 0 w := by
  rw [Offers, h.inputAt]
  exact ho

/-- A whole REQUEST that passes the checks: the acceptance, and then the REQUEST steps on the host's behalf. -/
theorem ticks_request (h : Undisturbed (ts + 5) s) (hq : s.seq = .ready) (hqc : s.qc = true)
    (hts : waitTicks s.cfg.tSettle = ts) (hr : requestTable md = some (p, q))
    (hw : w.toNat = 0x20000000 + md.code.toNat) (ho : Offers s 0 w) :
    ticks (ts + 5) s = .next { ticked (ts + 5) s with
      lineDp := p.driven, lineDm := q.driven, timer := 0, ir := w, reqMode := md, mode := md, lnk := false,
      seq := .ready, respValid := true, respStatus := .ok, respData := md.code } := by
  have h1 := step_request (h.atStep hq) hqc (requestable_of_row hr) hw ho
  have h2 := ticks_requestSteps (h.tick h1) rfl hts hr
  exact h.ticks_eq (ticks_succ_of_step h1 h2)

/-- Settles O53: the whole run, which ends in READY as it began. -/
theorem requestDrivesItsPair : Obligations.RequestDrivesItsPair := by
  rintro s md p q w ts n hts rfl hr hw hready hqc hreset hoffer
  have hend := ticks_request ⟨hready.bench, hreset⟩ hready.seq hqc hts.symm hr hw hoffer
  rw [← hready.seq] at hend
  exact hend

/-- Settles O54: the second run begins where the first ended, and writes the same values again. -/
theorem requestTwiceIsRequestOnce : Obligations.RequestTwiceIsRequestOnce := by
  rintro s md w _ rfl hm hw hready hqc hreset hfirst hsecond
  obtain ⟨p, q, hr⟩ := requestable_row hm
  have h : Undisturbed _ s := ⟨hready.bench, hreset⟩
  have u := h.mono (Nat.le_add_right _ _)
  have h1 := ticks_request u hready.seq hqc rfl hr hw hfirst
  have h2 := ticks_request (h.after h1) rfl hqc rfl hr hw ((u.elapsed h1).offers hsecond)
  exact ⟨_, _, h1, ticks_add_of_ticks h1 h2, rfl, rfl, rfl, rfl, rfl, rfl⟩

/-- Inside a wait only `timer` and `seq` move (R210 of 45_sequencer.md). -/
theorem ticks_waiting {succ : Seq} (h : Undisturbed (k + 1) s) (hw : s.seq.waitSuccessor = some succ)
    (hk : k + 1 ≤ waitTicks s.timer) :
    ∃ n r, ticks (k + 1) s = .next { ticked (k + 1) s with timer := n, seq := r } := by
  induction k generalizing s with
  | zero =>
    have hstep := step_wait (h.atStep rfl) hw
    split at hstep <;> exact ⟨_, _, ticks_succ_of_step hstep rfl⟩
  | succ k ih =>
    have hstep := step_wait (h.atStep rfl) hw
    have ht : 1 < s.timer.toNat := by rw [waitTicks] at hk; omega
    rw [if_pos ht] at hstep
    have hleft : k + 1 ≤ waitTicks (s.timer - 1) := Nat.le_of_succ_le_succ (hk.trans_eq (waitTicks_pred ht).symm)
    obtain ⟨n, r, hrest⟩ := ih (h.tick hstep) hw hleft
    exact ⟨n, r, h.ticks_eq (ticks_succ_of_step hstep hrest)⟩

/-- REQUEST up to its wait: accepted, and both lines released (R155 to R157). -/
theorem ticks_requestToWait (h : Undisturbed 3 s) (hq : s.seq = .ready) (hqc : s.qc = true) (hm : md.requestable = true)
    (hw : w.toNat = 0x20000000 + md.code.toNat) (ho : Offers s 0 w) :
    ticks 3 s = .next { ticked 3 s with
      lineDp := s.lineDp.released, lineDm := s.lineDm.released, timer := s.cfg.tSettle, ir := w, reqMode := md,
      lnk := false, seq := .qWait } := by
  have h1 := step_request (h.atStep hq) hqc hm hw ho
  have u1 := h.tick h1
  have h2 := step_qLsnDp (u1.atStep rfl)
  have h3 := step_qLsnDm ((u1.tick h2).atStep rfl)
  exact h.ticks_eq (ticks_succ_of_step h1 (ticks_succ_of_step h2 (ticks_succ_of_step h3 rfl)))

/-- Settles O55: state by state to the wait, the wait as one stretch in which both lines stay released, and Q_SET_DP. -/
theorem requestFloatsBothLines : Obligations.RequestFloatsBothLines := by
  intro s md w ts hts hm hw hready hqc hreset hoffer j hj
  obtain ⟨p, q, hr⟩ := requestable_row hm
  have h : Undisturbed (3 + (ts + 2)) s := ⟨hready.bench, by rwa [Nat.add_comm]⟩
  have h3 := ticks_requestToWait (h.mono (Nat.le_add_right 3 _)) hready.seq hqc hm hw hoffer
  have u3 := h.after h3
  obtain hlt | hle := Nat.lt_or_ge 3 j
  · obtain ⟨k, rfl⟩ := Nat.exists_eq_add_of_lt hlt
    have hrun {m : State} (hm : ticks (k + 1) _ = .next m) : ticks (3 + k + 1) s = .next m :=
      ticks_add_of_ticks (j := 3) (k := k + 1) h3 hm
    by_cases hk : k + 1 ≤ ts
    · obtain ⟨n, r, hwait⟩ := ticks_waiting (u3.mono (by omega)) rfl (hts ▸ hk)
      exact ⟨_, hrun hwait, fun _ _ => rfl, fun _ => rfl, by omega, by simp⟩
    · obtain rfl : k = ts := by omega
      have hwait := ticks_wait (u3.mono (Nat.le_add_right k _)) rfl hts.symm
      have hset := step_qSetDp ((u3.after hwait).atStep rfl) hr
      exact ⟨_, hrun (ticks_add_of_ticks hwait (ticks_succ_of_step hset rfl)), by omega, fun _ => rfl,
        fun _ => by simp [hr], by simp⟩
  · have h1 := step_request hready hqc hm hw hoffer
    have h2 := step_qLsnDp (((h.mono (j := 2) (by omega)).tick h1).atStep rfl)
    interval_cases j
    · exact ⟨s, rfl, by omega, by omega, by omega, by simp⟩
    · exact ⟨_, ticks_succ_of_step h1 rfl, by omega, by omega, by omega, rfl⟩
    · exact ⟨_, ticks_succ_of_step h1 (ticks_succ_of_step h2 rfl), fun _ _ => rfl, by omega, by omega, rfl⟩
    · exact ⟨_, h3, fun _ _ => rfl, fun _ => rfl, by omega, rfl⟩
end Runs
end Sys2Proof.Machine
end
section
/-! The decoder (43_decoder.md): the bands and the decode rows, MFV, and GETMODE step by step and as a whole. The words
of the two commands are compared as numbers, as R73 and R74 write them. -/

namespace Sys2Proof.Machine
variable {s t : State} {a b : Chan} {w : CmdWord}

section Bands
variable {c : Config} {v : Mv}

/-! R171, one lemma per answer: the first test that passes decides. -/

theorem bandOf_eq_low_iff : bandOf c v = .low ↔ c.lowLo ≤ v.toNat ∧ v.toNat < c.lowHi := by
  unfold bandOf
  split_ifs <;> simp [*]

theorem bandOf_eq_mid_iff :
    bandOf c v = .mid ↔ bandOf c v ≠ .low ∧ c.midLo ≤ v.toNat ∧ v.toNat < c.midHi := by
  unfold bandOf
  split_ifs <;> simp [*]

theorem bandOf_eq_high_iff :
    bandOf c v = .high ↔ bandOf c v ≠ .low ∧ bandOf c v ≠ .mid ∧ c.highLo ≤ v.toNat ∧ v.toNat < c.highHi := by
  unfold bandOf
  split_ifs <;> simp [*]

theorem bandOf_eq_none_iff : bandOf c v = .none ↔ bandOf c v ≠ .low ∧ bandOf c v ≠ .mid ∧ bandOf c v ≠ .high := by
  cases bandOf c v <;> decide

/-- Settles O32: in ordered edges a voltage of a later interval is in none of the earlier ones. -/
theorem bandsAreDisjoint : Obligations.BandsAreDisjoint := by
  intro c v hc
  have hedges := of_decide_eq_true hc
  have hmid : bandOf c v = .mid ↔ c.midLo ≤ v.toNat ∧ v.toNat < c.midHi := by
    rw [bandOf_eq_mid_iff, Ne, bandOf_eq_low_iff]
    omega
  refine ⟨bandOf_eq_low_iff, hmid, ?_⟩
  rw [bandOf_eq_high_iff, Ne, Ne, bandOf_eq_low_iff, hmid]
  omega

/-- Settles O31: the default edges are ordered, and NONE is what the three intervals leave. -/
theorem bandsAreHalfOpen : Obligations.BandsAreHalfOpen := by
  intro v
  obtain ⟨hlow, hmid, hhigh⟩ := bandsAreDisjoint Config.default v rfl
  rw [bandOf_eq_none_iff, Ne, Ne, Ne, hlow, hmid, hhigh]
  dsimp only [Config.default]
  omega
end Bands

section DecodeRows
variable {c : Config} {dp dm : Mv}

/-- BothZero under BAND (R175). -/
theorem bothZero_of_band (h : c.discRule = .band) :
    bothZero c dp dm = (bandOf c dp == .low && bandOf c dm == .low) := by
  rw [bothZero, h]

/-- BothZero under EXACT (R175). -/
theorem bothZero_of_exact (h : c.discRule = .exact) : bothZero c dp dm = true ↔ dp.toNat = 0 ∧ dm.toNat = 0 := by
  rw [bothZero, h]
  simp [← BitVec.toNat_inj]

/-- Settles O33: pair by pair, once BothZero is read under the rule at hand. -/
theorem decodeOfEachBandPair : Obligations.DecodeOfEachBandPair := by
  refine fun c dp dm => ⟨fun hband => ?_, fun hexact => ?_⟩
  · rw [decodeVoltages, bothZero_of_band hband]
    cases bandOf c dp <;> cases bandOf c dm <;> rfl
  · simp only [decodeVoltages, bothZero_of_exact hexact]
    cases bandOf c dp <;> cases bandOf c dm <;> rfl

/-- The bands are read from the edges alone. -/
theorem bandOf_discRule (r : DiscRule) (v : Mv) : bandOf { c with discRule := r } v = bandOf c v := rfl

/-- Settles O34: both voltages are LOW, so only BothZero is asked. -/
theorem exactRuleNeedsTwoZeros : Obligations.ExactRuleNeedsTwoZeros := by
  intro dp dm hdp hdm
  have hlow {v : Mv} (hv : v.toNat < 200) : bandOf Config.default v = .low := (bandsAreHalfOpen v).1.2 hv
  constructor
  · rw [(decodeOfEachBandPair _ dp dm).2 rfl, bandOf_discRule _ dp, bandOf_discRule _ dm, hlow hdp, hlow hdm]
  · rw [(decodeOfEachBandPair _ dp dm).1 rfl, hlow hdp, hlow hdm]

/-- Settles O35: each row of the request table is a row of the decoder. -/
theorem requestTableDecodesBack : Obligations.RequestTableDecodesBack := by
  intro c m p q hlow hmid hhigh hrow hr
  cases m with
  | disconnected | generic5v => cases hr
  | qc5v | qc12v | qc20v | qcVariable => cases hr; simp [decodeVoltages, hlow, hmid, hhigh]
  | qc9v => cases hr; simp [decodeVoltages, hmid, hhigh, hrow, row4Mode]
end DecodeRows

section Words
variable {k l m : Nat} {x : BitVec k} {y : BitVec l} {z : BitVec m}

theorem toNat_append_eq_add : (x ++ y).toNat = x.toNat * 2 ^ l + y.toNat := by
  rw [BitVec.toNat_append, ← Nat.shiftLeft_add_eq_or_of_lt y.isLt, Nat.shiftLeft_eq]

/-- A word is a concatenation exactly when its number is the sum of the parts at their places. -/
theorem append_append_eq_iff_toNat {w : BitVec (k + l + m)} :
    x ++ y ++ z = w ↔ w.toNat = x.toNat * 2 ^ (l + m) + y.toNat * 2 ^ m + z.toNat := by
  rw [← BitVec.toNat_inj, toNat_append_eq_add, toNat_append_eq_add, Nat.add_mul, Nat.mul_assoc, ← Nat.pow_add, eq_comm]

/-- The words of GETMODE as numbers (R73 of 30_encoding.md). -/
theorem encode_getmode_eq_iff_toNat :
    encode (.getmode a b) = .cmd w ↔ w.toNat = 0x40000000 + a.toNat * 16 + b.toNat := by
  rw [encode, AnyWord.cmd.injEq]
  exact append_append_eq_iff_toNat

/-- The words of MFV as numbers (R74 of 30_encoding.md). -/
theorem encode_mfv_eq_iff_toNat {dp dm : Mv} :
    encode (.mfv dp dm) = .cmd w ↔ w.toNat = 0x50000000 + dp.toNat * 0x1000 + dm.toNat := by
  rw [encode, AnyWord.cmd.injEq]
  exact append_append_eq_iff_toNat
end Words

section Steps
/-- A command offered in READY, by the effect of its meaning after the pulses are cleared (R205, R206). -/
theorem State.AtStep.step_offered {i : Instr} (h : s.AtStep .ready) (ho : Offers s 0 w) (hw : encode i = .cmd w)
    (hx : exec i (latchCommand w (tickStart s)) = .next t) :
    step s = .next { t with inputs := t.inputs.drop 1, tick := t.tick + 1 } :=
  h.step_eq ((sequencerStep_offered (s := tickStart s) h.seq ho (decodeCmd_eq_ok_iff.2 hw)).trans hx)

theorem exec_getmode (hw : encode (.getmode a b) = .cmd w) :
    exec (.getmode a b) s = .next { s with ir := w, seq := .gRdDp } := by
  cases hw
  rfl

theorem exec_mfv {dp dm : Mv} (hw : encode (.mfv dp dm) = .cmd w) :
    exec (.mfv dp dm) s = .next { s with
      ir := w, seq := .ready, respValid := true, respStatus := .ok,
      respData := Mode.code (decodeVoltages s.cfg dp dm),
      diag := if decodeVoltages s.cfg dp dm = .generic5v then .ambig else s.diag } := by
  cases hw
  rfl

/-- Settles O18: the latched word is the word of GETMODE, read as a number and by its fields. -/
theorem getmodeAcceptanceKeepsTheChannels : Obligations.GetmodeAcceptanceKeepsTheChannels := by
  intro s a b
  obtain ⟨-, -, ha, hb⟩ := encode_getmode_eq_iff.1 (rfl : encode (.getmode a b) = .cmd _)
  exact ⟨_, exec_getmode rfl, rfl, encode_getmode_eq_iff_toNat.1 rfl, ha, hb⟩

/-- Settles O19: the meaning of MFV, and the tick that accepts it, which ends in READY as it began. -/
theorem mfvAnswersTheDecodedMode : Obligations.MfvAnswersTheDecodedMode := by
  refine fun s dp dm => ⟨_, encode_mfv_eq_iff_toNat.1 rfl, rfl, exec_mfv rfl, fun h ho => ?_⟩
  have hstep := h.step_offered ho rfl (exec_mfv rfl)
  rw [← h.seq] at hstep
  exact hstep

/-- READY with a GETMODE offered (R180, R206). -/
theorem step_getmode (h : s.AtStep .ready) (hw : encode (.getmode a b) = .cmd w) (ho : Offers s 0 w) :
    step s = .next { ticked 1 s with ir := w, seq := .gRdDp } :=
  h.step_offered ho hw (exec_getmode hw)

theorem step_gRdDp (h : s.AtStep .gRdDp) : step s = .next { ticked 1 s with
    adcDp := adcRead s (s.ir.extractLsb' 4 4), seq := .gRdDm } :=
  h.step_eq (sequencerStep_gRdDp h.seq)

theorem step_gRdDm (h : s.AtStep .gRdDm) : step s = .next { ticked 1 s with
    adcDm := adcRead s (s.ir.extractLsb' 0 4), timer := s.cfg.tAdcSettle, seq := .gWait } :=
  h.step_eq (sequencerStep_gRdDm h.seq)

theorem step_gCls (h : s.AtStep .gCls) : step s = .next { ticked 1 s with
    seq := .ready, respValid := true, respStatus := .ok,
    respData := Mode.code (decodeVoltages s.cfg s.adcDp s.adcDm),
    diag := if decodeVoltages s.cfg s.adcDp s.adcDm = .generic5v then .ambig else .ok } :=
  h.step_eq (sequencerStep_gCls h.seq)

/-- Settles O27: the step of each state; `adcRead` is the reading of the named channel in the state's own tick. -/
theorem getmodeSteps : Obligations.GetmodeSteps := fun _ => ⟨step_gRdDp, step_gRdDm, step_gCls⟩
end Steps

section Runs
variable {j : Nat}

/-- The ADC of a later tick reads the inputs that were ahead. -/
theorem Elapsed.adcRead_eq (h : Elapsed j s t) (ch : Chan) : adcRead t ch = (s.inputAt j).adc.get ch.toFin := by
  have hinput : t.input = s.inputAt j := h.inputAt 0
  rw [adcRead, hinput]

/-- GETMODE up to its wait: accepted, and both channels read, one tick apart (R180, R182, R183). -/
theorem ticks_getmodeReads (h : Undisturbed 3 s) (hq : s.seq = .ready) (hw : encode (.getmode a b) = .cmd w)
    (ho : Offers s 0 w) :
    ticks 3 s = .next { ticked 3 s with
      ir := w, adcDp := (s.inputAt 1).adc.get a.toFin, adcDm := (s.inputAt 2).adc.get b.toFin,
      timer := s.cfg.tAdcSettle, seq := .gWait } := by
  obtain ⟨-, -, rfl, rfl⟩ := encode_getmode_eq_iff.1 hw
  have h1 := step_getmode (h.atStep hq) hw ho
  have e1 := (h.atStep hq).elapsed h1
  have u1 := h.tick h1
  have h2 := step_gRdDp (u1.atStep rfl)
  have e2 := e1.trans ((u1.atStep rfl).elapsed h2)
  have h3 := step_gRdDm ((u1.tick h2).atStep rfl)
  have hrun := h.ticks_eq (ticks_succ_of_step h1 (ticks_succ_of_step h2 (ticks_succ_of_step h3 rfl)))
  rw [e2.adcRead_eq, e1.adcRead_eq] at hrun
  exact hrun

/-- Settles O57: the two readings, the wait and the classification, which ends in READY as the run began. -/
theorem getmodeAnswersTheTwoReadings : Obligations.GetmodeAnswersTheTwoReadings := by
  rintro s a b w _ _ n hn hw hready hreset hoffer rfl rfl
  obtain rfl : n = 3 + (waitTicks s.cfg.tAdcSettle + 1) := by omega
  have h : Undisturbed _ s := ⟨hready.bench, hreset⟩
  have h1 := ticks_getmodeReads (h.mono (Nat.le_add_right 3 _)) hready.seq (encode_getmode_eq_iff_toNat.2 hw) hoffer
  have u1 := h.after h1
  have h2 := ticks_wait (u1.mono (Nat.le_succ _)) rfl rfl
  have h3 := step_gCls ((u1.after h2).atStep rfl)
  have hend := h.ticks_eq (ticks_add_of_ticks h1 (ticks_add_of_ticks h2 (ticks_succ_of_step h3 rfl)))
  rw [← hready.seq] at hend
  exact hend
end Runs
end Sys2Proof.Machine
end
section
/-! ISQC (44_status_query.md): what it means, and the one tick that accepts and answers it. -/

namespace Sys2Proof.Machine
variable {s : State}

/-- The word of ISQC as a number (R71 of 30_encoding.md). -/
theorem encode_isqc : encode .isqc = .cmd 0x30000000 := rfl

/-- The meaning of ISQC on the whole state: the answer is the flag, zero-extended to the three bits of `resp_data`. -/
theorem exec_isqc : exec .isqc s = .next { s with
    ir := 0x30000000, respValid := true, respStatus := .ok,
    respData := if s.qc then 0b001 else 0b000, seq := .ready } := rfl

/-- READY with ISQC offered (R200, R206); the pulses, `diag` among them, are cleared at the start of the tick (R207). -/
theorem step_isqc (h : s.AtStep .ready) (ho : Offers s 0 0x30000000) : step s = .next { ticked 1 s with
    ir := 0x30000000, respValid := true, respStatus := .ok, respData := if s.qc then 0b001 else 0b000 } := by
  have hstep := h.step_offered ho encode_isqc exec_isqc
  rw [← h.seq] at hstep
  exact hstep

/-- Settles O17: the word, the meaning, and the tick that accepts ISQC, which ends in READY as it began. -/
theorem isqcAnswersTheFlag : Obligations.IsqcAnswersTheFlag := fun _ => ⟨encode_isqc, exec_isqc, step_isqc⟩

end Sys2Proof.Machine
end
section
/-! The sequencer (45_sequencer.md), a tick at a time: what a READY step and a micro-step run (R205 to R207), the waits
(R210), the response pulses and the transfers of control (R207, R211), and that a step of the invariant is never
refused (R205). -/

namespace Sys2Proof.Machine
variable {s t m : State}

section Running
variable {i : Instr} {u : UopWord}

theorem andThen_assoc (o : Result) (f g : State → Result) :
    andThen (andThen o f) g = andThen o fun m => andThen (f m) g := by
  cases o <;> rfl

theorem issue_of_decode (h : decodeUop u = .ok i) (s : State) : issue u s = exec i s := by
  rw [issue, h]

/-- Settles O7: READY without a command does nothing inside its frame, with one it runs the command's meaning. -/
theorem readyStepRunsTheOfferedCommand : Obligations.ReadyStepRunsTheOfferedCommand := by
  intro s h
  refine ⟨fun hv => ?_, fun i hv hd => ?_⟩
  · have hstay : sequencerStep (tickStart s) = .next (tickStart s) := by
      rw [sequencerStep_ready (s := tickStart s) h.seq, stepReady, input_tickStart, hv]
      rfl
    exact h.step_eq hstay
  · rw [step_sequencer h.noReset h.bench, sequencerStep_offered (s := tickStart s) h.seq ⟨hv, rfl⟩ hd]
    rfl

/-- Settles O8: the micro-step's tick is its word's meaning, then its own writes, then the end of the tick. -/
theorem sequencerStepRunsItsMicroOperation : Obligations.SequencerStepRunsItsMicroOperation := by
  intro s u i hb hr hu hd
  have hrun : sequencerStep (tickStart s) = andThen (exec i (tickStart s)) (microStep s.seq) := by
    rw [← issue_of_decode hd]
    simp only [sequencerStep, show issued (tickStart s) = .word u from hu, tickStart_seq]
  rw [step_sequencer hr hb, hrun, andThen_assoc]
  rfl

/-- Settles O9: a micro-operation word is placed for the line drivers, a command word is offered in READY. -/
theorem placedWordIsTheNextInstruction : Obligations.PlacedWordIsTheNextInstruction := by
  intro s nbits w i hd
  rw [decodeTableWord_eq_some] at hd
  by_cases hn : nbits ≤ 8
  · rw [tableWord, if_pos hn] at hd
    have hp : s.withFetchWord nbits w = placeWord (.uop (BitVec.ofNat 4 w)) s := by
      rw [State.withFetchWord, tableWord, if_pos hn]
    refine ⟨_, rfl, by rw [hp]; rfl, ?_⟩
    rw [hp, if_pos hn, step_bench rfl rfl, issue_of_decode hd]
    rfl
  · rw [tableWord, if_neg hn] at hd
    have hp : s.withFetchWord nbits w = placeWord (.cmd (BitVec.ofNat 32 w)) s := by
      rw [State.withFetchWord, tableWord, if_neg hn]
    have hready : (placeWord (.cmd (BitVec.ofNat 32 w)) s).AtStep .ready := ⟨rfl, rfl, rfl⟩
    refine ⟨_, rfl, by rw [hp]; rfl, ?_⟩
    rw [hp, if_neg hn]
    exact (readyStepRunsTheOfferedCommand _ hready).2 i rfl hd
end Running

section Waits
variable {j : Nat} {succ : Seq}

theorem waitSuccessor_eq_some_iff {q : Seq} : q.waitSuccessor = some succ ↔
    (q, succ) ∈ [(Seq.bWait1, Seq.bSmp1), (.bWait2, .bHi2Dp), (.bWait3, .bSmp2), (.qWait, .qSetDp), (.gWait, .gCls)] := by
  cases q <;> simp [Seq.waitSuccessor, eq_comm]

theorem waitSuccessor_cases {q : Seq} (h : q.waitSuccessor = some succ) :
    (q = .bWait1 ∧ succ = .bSmp1) ∨ (q = .bWait2 ∧ succ = .bHi2Dp) ∨ (q = .bWait3 ∧ succ = .bSmp2) ∨
    (q = .qWait ∧ succ = .qSetDp) ∨ (q = .gWait ∧ succ = .gCls) := by
  simpa using waitSuccessor_eq_some_iff.1 h

/-- Settles O29: the five pairs are the wait states with their successors, and a wait is one lemma. -/
theorem waitStatesCountDown : Obligations.WaitStatesCountDown :=
  fun _ _ _ hmem h => step_wait h (waitSuccessor_eq_some_iff.2 hmem)

/-- Inside a wait each tick takes one from the timer. -/
theorem ticks_countDown (h : Undisturbed (j + 1) s) (hw : s.seq.waitSuccessor = some succ)
    (hj : j + 1 < waitTicks s.timer) :
    ticks (j + 1) s = .next { ticked (j + 1) s with timer := s.timer - BitVec.ofNat 21 (j + 1) } := by
  induction j generalizing s with
  | zero =>
    have hstep := step_wait (h.atStep rfl) hw
    rw [if_pos (by rw [waitTicks] at hj; omega)] at hstep
    exact ticks_succ_of_step hstep rfl
  | succ j ih =>
    have hstep := step_wait (h.atStep rfl) hw
    have ht : 1 < s.timer.toNat := by rw [waitTicks] at hj; omega
    rw [if_pos ht] at hstep
    have hleft : j + 1 < waitTicks (s.timer - 1) := Nat.lt_of_succ_lt_succ (hj.trans_eq (waitTicks_pred ht).symm)
    have htimer : s.timer - 1 - BitVec.ofNat 21 (j + 1) = s.timer - BitVec.ofNat 21 (j + 1 + 1) := by
      bv_omega
    rw [← htimer]
    exact h.ticks_eq (ticks_succ_of_step hstep (ih (h.tick hstep) hw hleft))

/-- Settles O30: inside the wait the timer counts down, and the whole wait is one move. -/
theorem waitLastsItsTicks : Obligations.WaitLastsItsTicks := by
  intro s succ hw hb hreset
  have h : Undisturbed (waitTicks s.timer) s := ⟨hb, hreset⟩
  refine ⟨fun j hpos hlt => ?_, ticks_wait h hw rfl⟩
  obtain ⟨k, rfl⟩ := Nat.exists_eq_add_one_of_ne_zero hpos.ne'
  exact ticks_countDown (h.mono hlt.le) hw hlt
end Waits

section Transfers
/-- A move either leaves the four registers of a response as they are, or answers in READY; then it is a command
accepted or one of the four last steps of a command (R207, R212). -/
theorem move_pulse (h : SeqMove s m) :
    (m.respValid = s.respValid ∧ m.diag = s.diag ∧ m.respStatus = s.respStatus ∧ m.respData = s.respData) ∨
    (m.respValid = true ∧ m.seq = .ready ∧
      ((s.seq = .ready ∧ s.input.cmdValid = true) ∨ s.seq = .bSmp1 ∨ s.seq = .bSmp2 ∨ s.seq = .qSetDm ∨
        s.seq = .gCls)) := by
  cases h with
  | illegal hq hv | reject hq hv | isqc hq hv | mfv hq hv => exact .inr ⟨rfl, rfl, .inl ⟨hq, hv⟩⟩
  | bSmp1Low hq => exact .inr ⟨rfl, rfl, .inr (.inl hq)⟩
  | bSmp2High hq => exact .inr ⟨rfl, rfl, .inr (.inr (.inl hq))⟩
  | qSetDm hq => exact .inr ⟨rfl, rfl, .inr (.inr (.inr (.inl hq)))⟩
  | gCls hq => exact .inr ⟨rfl, rfl, .inr (.inr (.inr (.inr hq)))⟩
  | _ => exact .inl ⟨rfl, rfl, rfl, rfl⟩

/-- Settles O39: a word from outside answers nothing, and a move answers only at the end of a command. -/
theorem responsesAreOneTickPulses : Obligations.ResponsesAreOneTickPulses := by
  intro s t h hr
  obtain ⟨u, x, r, b, _, rfl⟩ | ⟨hb, m, hm, rfl⟩ := step_move h hr
  · exact .inl (by simp)
  · obtain hkept | ⟨hv, hready, hlast⟩ := move_pulse hm
    · exact .inl hkept
    · exact .inr ⟨hv, hready, hb, hlast⟩

/-- A REQUEST passes its checks exactly when `qc` is set and `marg` is in 2 to 6 (R152 to R155 of
42_mode_request.md). -/
theorem requestCheck_eq_ok_iff {qc : Bool} {marg : Marg} :
    (∃ md, requestCheck qc marg = .ok md) ↔ qc = true ∧ 2 ≤ marg.toNat ∧ marg.toNat ≤ 6 := by
  have hnone := requestedMode_eq_none_iff (marg := marg)
  obtain ⟨rfl, h⟩ | ⟨rfl, rfl, h⟩ | ⟨rfl, -, hm, h⟩ | ⟨md, rfl, hm, h⟩ := requestCheck_cases qc marg <;> rw [h]
  · simp
  · simp
  · have hout := hnone.1 hm
    refine iff_of_false (by simp) ?_
    rintro ⟨-, hlo, hhi⟩
    omega
  · have hin := mt hnone.2 (by simp [hm])
    exact iff_of_true ⟨md, rfl⟩ ⟨rfl, by omega, by omega⟩

/-- Settles O40: move by move; the condition of the table is the guard of the move. -/
theorem controlTransfers : Obligations.ControlTransfers := by
  intro s t h hr hb
  obtain ⟨u, _, _, _, hu, -⟩ | ⟨-, m, hm, rfl⟩ := step_move h hr
  · cases hb.symm.trans hu
  have hv0 : (tickStart s).respValid = false := rfl
  have hpin : pinIn s .dm .h = pinIn (tickStart s) .dm .h := rfl
  rw [tickEnd_seq, tickEnd_respValid, tickEnd_lnk, hpin, ← tickStart_seq s, ← input_tickStart s, ← tickStart_timer s,
    ← tickStart_qc s]
  generalize tickStart s = p at hm hv0
  cases hm with
  | stay hq hv => simp [hq, hv, hv0]
  | illegal hq hv hd | begin hq hv hd | isqc hq hv hd | getmode hq hv hd | mfv hq hv hd => simp [hq, hv, hd, hv0]
  | @reject marg _ hq hv hd hc =>
    have hfails : ¬(p.qc = true ∧ 2 ≤ marg.toNat ∧ marg.toNat ≤ 6) := by
      rw [← requestCheck_eq_ok_iff, hc]
      simp
    simp [hq, hv, hd, hfails]
  | request hq hv hd hc =>
    have hpasses := requestCheck_eq_ok_iff.1 ⟨_, hc⟩
    simp [hq, hv, hd, hv0, hpasses]
  | waitOn hw ht =>
    obtain ⟨hq, -⟩ | ⟨hq, -⟩ | ⟨hq, -⟩ | ⟨hq, -⟩ | ⟨hq, -⟩ :=
      waitSuccessor_cases hw <;> simp [hq, ht, hv0]
  | waitDone hw ht =>
    obtain ⟨hq, rfl⟩ | ⟨hq, rfl⟩ | ⟨hq, rfl⟩ | ⟨hq, rfl⟩ | ⟨hq, rfl⟩ :=
      waitSuccessor_cases hw <;> simp [hq, ht, hv0]
  | bSmp1Low hq hp | bSmp1High hq hp | bSmp2Low hq hp | bSmp2High hq hp => simp [hq, hp, hv0]
  | bLsnDm hq | bHiDp hq | bGliDp hq | bHi2Dp hq | qLsnDp hq | qLsnDm hq | qSetDp hq | gRdDp hq | gRdDm hq =>
    rw [hq]
    exact ⟨congrArg (Prod.mk _) hv0, nofun⟩
  | qSetDm hq | gCls hq =>
    rw [hq]
    exact ⟨rfl, nofun⟩
end Transfers

section Progress
/-- No step faults: the block has no fault (R13 of 00_scope.md). -/
theorem step_answers (h : ∀ r, step s ≠ .refused r) : ∃ t, step s = .next t := by
  cases hs : step s with
  | next t => exact ⟨t, rfl⟩
  | fault f => cases f
  | refused r => exact absurd hs (h r)

/-- Settles O48: the two refusals need a word from outside, or a driving step of REQUEST without a row. -/
theorem invariantStatesAlwaysStep : Obligations.InvariantStatesAlwaysStep := by
  intro s hi
  refine step_answers fun r hr => ?_
  obtain ⟨-, ⟨-, u, hu, -⟩ | ⟨-, -, hq, hrow⟩⟩ := (refusalsAreTheTwoNamedOnes.2.2 s r).1 hr
  · cases hi.bench.symm.trans hu
  · have hin : s.seq.inRequest = true := by rcases hq with hq | hq <;> rw [hq] <;> rfl
    obtain ⟨p, q, hr⟩ := requestable_row (hi.request hin).2.1
    cases hrow.symm.trans hr
end Progress
end Sys2Proof.Machine
end
section
/-! What a step reads of its inputs (R206, R208, R209 of 45_sequencer.md). A step that reads only what the two inputs
agree on gives the same answer with either, up to the inputs themselves, which the end of the tick drops. -/

namespace Sys2Proof.Machine
variable {s : State} {i : TickInput}

/-- A step's answer with `i` in place of the inputs of the tick. -/
def withInput (i : TickInput) (o : Result) : Result :=
  andThen o fun m => .next (m.setInput i)

/-- What the sequencer reads in the state it is in is the same in `i` as in the inputs of the tick (R208). -/
structure SameReads (i : TickInput) (s : State) : Prop where
  offer : s.seq = .ready → i.cmdValid = s.input.cmdValid
  word : s.seq = .ready → i.cmdValid = true → i.cmd = s.input.cmd
  sample : s.seq = .bSmp1 ∨ s.seq = .bSmp2 → i.extDmH = s.input.extDmH
  adc : s.seq = .gRdDp ∨ s.seq = .gRdDm → i.adc.get s.adcCh.toFin = s.input.adc.get s.adcCh.toFin

section Operations
theorem line_setInput (x : Line) : (s.setInput i).line x = s.line x := by
  cases x <;> rfl

theorem pinIn_setInput {x : Line} {half : Half} (h : i.ext x half = s.input.ext x half) :
    pinIn (s.setInput i) x half = pinIn s x half := by
  rw [pinIn, line_setInput, input_setInput, h, pinIn]

theorem setLine_setInput (x : Line) (r : LineReg) : (s.setInput i).setLine x r = (s.setLine x r).setInput i := by
  cases x <;> rfl

theorem execRequest_setInput (marg : Marg) (s : State) :
    execRequest marg (s.setInput i) = withInput i (execRequest marg s) := by
  have hqc : (s.setInput i).qc = s.qc := rfl
  simp only [execRequest, latchCommand_qc, hqc]
  cases requestCheck s.qc marg <;> rfl

/-- A command's meaning reads no input: its operands are in its word. -/
theorem exec_command_setInput {w : CmdWord} {c : Instr} (hd : decodeCmd w = .ok c) (s : State) :
    exec c (s.setInput i) = withInput i (exec c s) := by
  obtain rfl | ⟨marg, rfl⟩ | rfl | ⟨a, b, rfl⟩ | ⟨a, b, rfl⟩ := decodeCmd_command hd
  exacts [rfl, execRequest_setInput marg s, rfl, rfl, rfl]

theorem accept_setInput (w : CmdWord) (s : State) : accept w (s.setInput i) = withInput i (accept w s) := by
  unfold accept
  cases hd : decodeCmd w with
  | ok c => exact exec_command_setInput hd (latchCommand w s)
  | error e => rfl

theorem stepReady_setInput (hv : i.cmdValid = s.input.cmdValid) (hw : i.cmdValid = true → i.cmd = s.input.cmd) :
    stepReady (s.setInput i) = withInput i (stepReady s) := by
  rw [stepReady, stepReady, input_setInput, ← hv]
  split
  next h => rw [hw h, accept_setInput]
  next => rfl

/-- A micro-operation reads at most a pin. -/
theorem issue_setInput (hpins : ∀ x half, i.ext x half = s.input.ext x half) (u : UopWord) :
    issue u (s.setInput i) = withInput i (issue u s) := by
  unfold issue
  cases hd : decodeUop u with
  | error e => rfl
  | ok c =>
    obtain ⟨x, ⟨level, rfl⟩ | rfl | rfl | rfl⟩ := decodeUop_microOp hd
    · simp only [exec, execSlSet, setLevel, setLine_setInput]; rfl
    · simp only [exec, execSlListen, setListen, line_setInput, setLine_setInput]; rfl
    · simp only [exec, execSlRdh, pinIn_setInput (hpins x .h)]; rfl
    · simp only [exec, execSlRdl, pinIn_setInput (hpins x .l)]; rfl

theorem waitTick_setInput (succ : Seq) : waitTick succ (s.setInput i) = (waitTick succ s).setInput i := by
  symm
  exact apply_ite (State.setInput · i) _ _ _

/-- A sample reads the bit its own word returned, and no input beside it (R125, R132). -/
theorem stepBSmp1_setInput (s : State) : stepBSmp1 (s.setInput i) = (stepBSmp1 s).setInput i := by
  symm
  exact apply_ite (State.setInput · i) _ _ _

theorem stepBSmp2_setInput (s : State) : stepBSmp2 (s.setInput i) = (stepBSmp2 s).setInput i := by
  symm
  exact apply_ite (State.setInput · i) _ _ _

theorem stepGRdDp_setInput (hq : s.seq = .gRdDp) (h : i.adc.get s.adcCh.toFin = s.input.adc.get s.adcCh.toFin) :
    stepGRdDp (s.setInput i) = (stepGRdDp s).setInput i := by
  rw [adcCh_eq, if_pos hq] at h
  simp only [stepGRdDp, adcRead, ← h]
  rfl

theorem stepGRdDm_setInput (hq : s.seq = .gRdDm) (h : i.adc.get s.adcCh.toFin = s.input.adc.get s.adcCh.toFin) :
    stepGRdDm (s.setInput i) = (stepGRdDm s).setInput i := by
  rw [adcCh_eq, if_neg (by simp [hq]), if_pos hq] at h
  simp only [stepGRdDm, adcRead, ← h]
  rfl

theorem goto_of_seq {q : Seq} (hq : s.seq = q) : goto q s = s := by
  subst hq
  rfl

theorem sequencerStep_setInput (h : SameReads i s) : sequencerStep (s.setInput i) = withInput i (sequencerStep s) := by
  cases hq : s.seq with
  | ready =>
    rw [sequencerStep_ready hq, sequencerStep_ready (s := s.setInput i) hq]
    exact stepReady_setInput (h.offer hq) (h.word hq)
  | bSmp1 =>
    have hpin := pinIn_setInput (x := .dm) (half := .h) (h.sample (.inl hq))
    rw [sequencerStep_bSmp1 hq, sequencerStep_bSmp1 (s := s.setInput i) hq, hpin]
    exact congrArg Host.Outcome.next (stepBSmp1_setInput (deliverRead _ s))
  | bSmp2 =>
    have hpin := pinIn_setInput (x := .dm) (half := .h) (h.sample (.inr hq))
    rw [sequencerStep_bSmp2 hq, sequencerStep_bSmp2 (s := s.setInput i) hq, hpin]
    exact congrArg Host.Outcome.next (stepBSmp2_setInput (deliverRead _ s))
  | gRdDp =>
    rw [sequencerStep_gRdDp hq, sequencerStep_gRdDp (s := s.setInput i) hq, stepGRdDp_setInput hq (h.adc (.inl hq))]
    rfl
  | gRdDm =>
    rw [sequencerStep_gRdDm hq, sequencerStep_gRdDm (s := s.setInput i) hq, stepGRdDm_setInput hq (h.adc (.inr hq))]
    rfl
  | qSetDp =>
    cases hr : requestTable s.reqMode with
    | none => rw [sequencerStep_noRow (.inl hq) hr, sequencerStep_noRow (s := s.setInput i) (.inl hq) hr]; rfl
    | some row => rw [sequencerStep_qSetDp hq hr, sequencerStep_qSetDp (s := s.setInput i) hq hr]; rfl
  | qSetDm =>
    cases hr : requestTable s.reqMode with
    | none => rw [sequencerStep_noRow (.inr hq) hr, sequencerStep_noRow (s := s.setInput i) (.inr hq) hr]; rfl
    | some row => rw [sequencerStep_qSetDm hq hr, sequencerStep_qSetDm (s := s.setInput i) hq hr]; rfl
  | bWait1 | bWait2 | bWait3 | qWait | gWait =>
    obtain ⟨succ, hw⟩ : ∃ succ, s.seq.waitSuccessor = some succ := ⟨_, congrArg Seq.waitSuccessor hq⟩
    rw [sequencerStep_wait hw, sequencerStep_wait (s := s.setInput i) hw, waitTick_setInput]
    rfl
  | bLsnDm | bHiDp | bGliDp | bHi2Dp | qLsnDp | qLsnDm | gCls =>
    rw [← goto_of_seq hq]
    rfl
end Operations

section Steps
/-- The end of the tick drops its inputs. -/
theorem withInput_tickEnd (o : Result) :
    (andThen (withInput i o) fun m => .next (tickEnd m)) = andThen o fun m => .next (tickEnd m) := by
  cases o <;> rfl

/-- What a step reads of its inputs: `rst`, and what the sequencer reads in its state or, with a word from outside the
sequencer, the pins. -/
theorem step_setInput (hr : i.rst = s.input.rst) (hs : s.bench = none → SameReads i s)
    (hpins : s.bench ≠ none → ∀ x half, i.ext x half = s.input.ext x half) : step (s.setInput i) = step s := by
  cases hrst : s.input.rst with
  | true =>
    rw [step_reset hrst, step_reset (s := s.setInput i) (hr.trans hrst)]
    rfl
  | false =>
    cases hb : s.bench with
    | none =>
      have hsame : SameReads i (tickStart s) := { hs hb with }
      have htick : tickStart (s.setInput i) = (tickStart s).setInput i := rfl
      rw [step_sequencer hrst hb, step_sequencer (s := s.setInput i) (hr.trans hrst) hb, htick,
        sequencerStep_setInput hsame, withInput_tickEnd]
    | some u =>
      have hissue := issue_setInput (s := { tickStart s with bench := none }) (hpins (by simp [hb])) u
      rw [step_bench hrst hb, step_bench (s := s.setInput i) (hr.trans hrst) hb]
      exact (congrArg (andThen · fun m => .next (tickEnd m)) hissue).trans (withInput_tickEnd _)

/-- Settles O41: a busy step reads pins and ADC only, and those are unchanged. -/
theorem busyStepIgnoresTheHost : Obligations.BusyStepIgnoresTheHost := by
  intro s v w hbusy
  refine step_setInput rfl (fun _ => ?_) fun _ x half => by cases x <;> cases half <;> rfl
  exact ⟨fun hq => absurd hq hbusy, fun hq => absurd hq hbusy, fun _ => rfl, fun _ => rfl⟩

/-- Settles O42: in each class of states the inputs that are read are the ones given equal. -/
theorem stepsReadOnlyTheirInputs : Obligations.StepsReadOnlyTheirInputs := by
  intro s i hb hrs hri
  have hstep (h : SameReads i s) : step (s.setInput i) = step s :=
    step_setInput (hri.trans hrs.symm) (fun _ => h) (absurd hb)
  refine ⟨fun hq hv hw => hstep ⟨fun _ => hv, fun _ => hw, by simp [hq], by simp [hq]⟩, fun hq => hstep ?_,
    fun hq hext => hstep ⟨?_, ?_, fun _ => hext, ?_⟩, fun hq hadc => hstep ⟨?_, ?_, ?_, fun _ => hadc⟩⟩
  · simp only [List.mem_cons, List.not_mem_nil, or_false, not_or] at hq
    constructor <;> simp [hq]
  all_goals rcases hq with hq | hq <;> simp [hq]
end Steps
end Sys2Proof.Machine
end
section
/-! Every running command completes (R215 of 45_sequencer.md): `ticksLeft` counts the ticks of the longest run from a
state to its response, and every tick of a busy state takes one from it or responds. -/

namespace Sys2Proof.Machine
variable {s t m : State}

/-- How many ticks are left to the response of the running command, if no sample falls back; 0 in READY. The waits
still to come stand with their loads, in the order they come, so that each count is the next one and a tick. -/
def State.ticksLeft (s : State) : Nat :=
  let wait := waitTicks s.timer
  let ts := waitTicks s.cfg.tSettle
  let tg := waitTicks s.cfg.tGlitch
  let ta := waitTicks s.cfg.tAdcSettle
  match s.seq with
  | .ready => 0
  | .bLsnDm => ts + tg + ts + ts + 10
  | .bHiDp => ts + tg + ts + ts + 9
  | .bWait1 => wait + tg + ts + ts + 8
  | .bSmp1 => tg + ts + ts + 8
  | .bGliDp => tg + ts + ts + 7
  | .bWait2 => wait + ts + ts + 6
  | .bHi2Dp => ts + ts + 6
  | .bWait3 => wait + ts + 5
  | .bSmp2 => ts + 5
  | .qLsnDp => ts + 4
  | .qLsnDm => ts + 3
  | .qWait => wait + 2
  | .qSetDp => 2
  | .qSetDm => 1
  | .gRdDp => ta + 3
  | .gRdDm => ta + 2
  | .gWait => wait + 1
  | .gCls => 1

theorem ticksLeft_pos (hbusy : s.seq ≠ .ready) : 0 < s.ticksLeft := by
  unfold State.ticksLeft
  cases hq : s.seq with
  | ready => exact absurd hq hbusy
  | _ => exact Nat.succ_pos _

theorem waitTicks_le (n : Ticks) : waitTicks n ≤ n.toNat + 1 := by
  rw [waitTicks]
  omega

/-- Every count is within the bound of R215. -/
theorem ticksLeft_le (s : State) : s.ticksLeft ≤ s.timer.toNat + waitTicks s.cfg.tGlitch +
    3 * waitTicks s.cfg.tSettle + waitTicks s.cfg.tAdcSettle + 11 := by
  have hwait := waitTicks_le s.timer
  unfold State.ticksLeft
  cases s.seq <;> dsimp only <;> omega

theorem waitTicks_of_le_one {n : Ticks} (h : n.toNat ≤ 1) : waitTicks n = 1 :=
  max_eq_right h

/-- A move of a busy state responds, or takes one tick from what is left. -/
theorem move_ticksLeft (h : SeqMove s m) (hbusy : s.seq ≠ .ready) :
    (m.seq = .ready ∧ m.respValid = true) ∨ (m.seq ≠ .ready ∧ m.ticksLeft + 1 = s.ticksLeft) := by
  cases h with
  | stay hq | illegal hq | begin hq | reject hq | request hq | isqc hq | getmode hq | mfv hq => exact absurd hq hbusy
  | bSmp1Low | bSmp2High | qSetDm | gCls => exact .inl ⟨rfl, rfl⟩
  | waitOn hw ht =>
    have hleft := waitTicks_pred ht
    refine .inr ⟨hbusy, ?_⟩
    obtain ⟨hq, -⟩ | ⟨hq, -⟩ | ⟨hq, -⟩ | ⟨hq, -⟩ | ⟨hq, -⟩ := waitSuccessor_cases hw <;>
      simp only [State.ticksLeft, hq] <;> omega
  | waitDone hw ht =>
    have hlast := waitTicks_of_le_one ht
    right
    obtain ⟨hq, rfl⟩ | ⟨hq, rfl⟩ | ⟨hq, rfl⟩ | ⟨hq, rfl⟩ | ⟨hq, rfl⟩ := waitSuccessor_cases hw <;>
      refine ⟨nofun, ?_⟩ <;> simp only [State.ticksLeft, hq] <;> omega
  | bLsnDm hq | bHiDp hq | bSmp1High hq | bGliDp hq | bHi2Dp hq | bSmp2Low hq | qLsnDp hq | qLsnDm hq | qSetDp hq
  | gRdDp hq | gRdDm hq =>
    have hleft : s.ticksLeft = (goto _ s).ticksLeft := congrArg State.ticksLeft (goto_of_seq hq).symm
    rw [hleft]
    exact .inr ⟨nofun, rfl⟩

/-- A busy state of the invariant responds within the ticks that are left to it. -/
theorem exists_response {n : Nat} (h : Undisturbed n s) (hi : s.Inv) (hbusy : s.seq ≠ .ready) (hn : s.ticksLeft ≤ n) :
    ∃ k t, k ≤ n ∧ ticks k s = .next t ∧ t.seq = .ready ∧ t.respValid = true := by
  induction n generalizing s with
  | zero => exact absurd (ticksLeft_pos hbusy) hn.not_gt
  | succ n ih =>
    obtain ⟨t, ht⟩ := invariantStatesAlwaysStep s hi
    obtain ⟨u, _, _, _, hu, -⟩ | ⟨-, m, hm, rfl⟩ := step_move ht (h.atStep rfl).noReset
    · cases hi.bench.symm.trans hu
    obtain ⟨hready, hv⟩ | ⟨hbusy', hleft⟩ := move_ticksLeft hm hbusy
    · exact ⟨1, _, Nat.le_add_left 1 n, ticks_succ_of_step ht rfl, hready, hv⟩
    · have hless : (tickEnd m).ticksLeft ≤ n := Nat.le_of_succ_le_succ (hleft.trans_le hn)
      obtain ⟨k, t', hk, hrun, hresp⟩ := ih (h.tick ht) (step_inv hi ht) hbusy' hless
      exact ⟨k + 1, t', Nat.succ_le_succ hk, ticks_succ_of_step ht hrun, hresp⟩

/-- Settles O58: what is left is within the bound. -/
theorem everyRunningCommandCompletes : Obligations.EveryRunningCommandCompletes := by
  rintro s _ rfl hi hbusy hreset
  exact exists_response ⟨hi.bench, hreset⟩ hi hbusy (ticksLeft_le s)
end Sys2Proof.Machine
end
section
/-! The exceptions (60_exceptions.md): the answer to an illegal command word (R236), and the system of instances that
share nothing (R247). What R247 says of the instances is a fact about the list of their parameters, which every tick
keeps. -/

namespace Sys2Proof.Machine

section Illegal
variable {s : State} {e : DecodeError}

/-- READY with a word offered that spells no command (R85 of 30_encoding.md, R236). -/
theorem sequencerStep_illegal (hq : s.seq = .ready) (hv : s.input.cmdValid = true)
    (hd : decodeCmd s.input.cmd = .error e) :
    sequencerStep s = .next (raise .illCmd (latchCommand s.input.cmd s)) := by
  rw [sequencerStep_ready hq, stepReady, if_pos hv, accept, hd]

/-- Settles O22: the condition is raised with the word latched, inside the frame of the tick, and READY stays READY. -/
theorem illegalCommandIsAnswered : Obligations.IllegalCommandIsAnswered := by
  intro s e h hv hd
  have hstep := h.step_eq (sequencerStep_illegal (s := tickStart s) h.seq hv hd)
  rw [raise, complete, ← h.seq] at hstep
  exact hstep
end Illegal

section Systems
variable {y z : System}

/-- A tick of a system is a tick of the list of its instances. -/
theorem systemStep_eq_next_iff_stepAll : systemStep y = .next z ↔ stepAll y.instances = .next z.instances := by
  obtain ⟨t, ts⟩ := z
  rw [systemStep, System.instances, stepAll, instances_mk]
  cases step y.first with
  | fault | refused => simp
  | next t' => cases stepAll y.others <;> simp

theorem systemStep_cfg (h : systemStep y = .next z) : z.instances.map (·.cfg) = y.instances.map (·.cfg) :=
  stepAll_cfg _ _ (systemStep_eq_next_iff_stepAll.1 h)

/-- The parameters of the first instance are the common ones if there are any. -/
theorem sameParameters_iff :
    y.sameParameters = true ↔ ∃ c : Config, ∀ s ∈ y.instances, s.cfg = { c with wiring := s.cfg.wiring } := by
  simp only [System.sameParameters, List.all_eq_true, beq_iff_eq]
  constructor
  · exact fun hothers => ⟨y.first.cfg, List.forall_mem_cons.2 ⟨rfl, hothers⟩⟩
  · rintro ⟨c, hc⟩ s hs
    obtain ⟨hfirst, hothers⟩ := List.forall_mem_cons.1 hc
    rw [hfirst]
    exact hothers s hs

theorem wellFormed_iff : y.wellFormed = true ↔
    (∃ c : Config, ∀ s ∈ y.instances, s.cfg = { c with wiring := s.cfg.wiring }) ∧
      (y.instances.map (·.cfg.wiring)).Nodup := by
  rw [System.wellFormed, Bool.and_eq_true, sameParameters_iff, System.wellWired, decide_eq_true_iff]

/-- Well-formedness reads only the list of parameters. -/
theorem wellFormed_iff_cfg : y.wellFormed = true ↔
    (∃ c : Config, ∀ k ∈ y.instances.map (·.cfg), k = { c with wiring := k.wiring }) ∧
      ((y.instances.map (·.cfg)).map (·.wiring)).Nodup := by
  simp only [wellFormed_iff, List.forall_mem_map, List.map_map, Function.comp_def]

/-- A tick keeps well-formedness, as it keeps the parameters (R35 of 10_state.md). -/
theorem systemStep_wellFormed (hw : y.wellFormed = true) (h : systemStep y = .next z) : z.wellFormed = true := by
  rw [wellFormed_iff_cfg] at hw ⊢
  rwa [systemStep_cfg h]

theorem reset_instances (c : Config) (w : Nat) (ws : List Nat) :
    (System.reset c w ws).instances = (w :: ws).map (portReset c) := rfl

/-- The instances built on distinct pins differ in their pins only. -/
theorem reset_wellFormed (c : Config) {w : Nat} {ws : List Nat} (h : (w :: ws).Nodup) :
    (System.reset c w ws).wellFormed = true := by
  rw [wellFormed_iff, reset_instances]
  refine ⟨⟨c, List.forall_mem_map.2 fun _ _ => rfl⟩, ?_⟩
  rw [List.map_map]
  exact (List.map_id (w :: ws)).symm ▸ h

/-- Settles O60: the system is its list of instances, and what it keeps is what each instance keeps. -/
theorem instancesAreIndependent : Obligations.InstancesAreIndependent := fun y z =>
  ⟨systemStep_eq_next_iff_stepAll.trans (stepAll_eq_next y.instances z.instances), systemStep_cfg, wellFormed_iff,
    fun c w ws h => ⟨reset_wellFormed c h, reset_instances c w ws⟩, systemStep_wellFormed⟩
end Systems
end Sys2Proof.Machine
end
section
/-! Reset and the hold times of BEGIN (70_reset_and_hazards.md): R260, and the table of R282. A row of the table is a
stretch of states that show the same (`Shows`): the state after a driving step, and the wait that follows it. -/

namespace Sys2Proof.Machine

/-- Settles O43: the tick of reset writes every register; `est_mv` is a free value. -/
theorem resetWinsOverEverything : Obligations.ResetWinsOverEverything :=
  fun s hr => ⟨Config.freeEstMv s.cfg.wiring s.tick, State.reset.readBit, step_reset hr⟩

/-- What a state shows in the middle of a command: the level of each line (none is Listen), `mode`, `qc`, and no
response yet. -/
structure State.Shows (t : State) (dp dm : Option Level) (md : Mode) (qc : Bool) : Prop where
  lineDp : t.lineDp.symbolic = dp
  lineDm : t.lineDm.symbolic = dm
  mode : t.mode = md
  qc : t.qc = qc
  pending : t.respValid = false

variable {s m : State} {dp dm : Option Level} {md : Mode} {qc : Bool} {p q : Level} {i j k ts tg : Nat}

section Stretches
variable {P : State → Prop}

theorem exists_ticks_succ (hstep : step s = .next m) (h : ∃ t, ticks k m = .next t ∧ P t) :
    ∃ t, ticks (k + 1) s = .next t ∧ P t := by
  rwa [ticks_succ_of_step hstep rfl]

theorem exists_ticks_add (hrun : ticks i s = .next m) (h : ∃ t, ticks k m = .next t ∧ P t) :
    ∃ t, ticks (i + k) s = .next t ∧ P t := by
  rwa [ticks_add_of_ticks hrun rfl]

/-- A wait shows the same from its first state to the first state after it. -/
theorem State.Shows.wait {succ : Seq} {n : Nat} (hs : s.Shows dp dm md qc) (h : Undisturbed k s)
    (hw : s.seq.waitSuccessor = some succ) (hn : waitTicks s.timer = n) (hk : k ≤ n) :
    ∃ t, ticks k s = .next t ∧ t.Shows dp dm md qc := by
  cases k with
  | zero => exact ⟨s, rfl, hs⟩
  | succ k =>
    obtain ⟨_, _, hrun⟩ := ticks_waiting h hw (hn ▸ hk)
    exact ⟨_, hrun, { hs with pending := rfl }⟩
end Stretches

section RequestRows
/-- From Q_LSN_DP's tick to the end of the wait, D- being in Listen already: both lines in Listen. -/
theorem requestSteps_float (h : Undisturbed k s) (hq : s.seq = .qLsnDp) (hts : waitTicks s.cfg.tSettle = ts)
    (hs : s.Shows dp none md qc) (hlo : 1 ≤ k) (hhi : k ≤ ts + 2) :
    ∃ t, ticks k s = .next t ∧ t.Shows none none md qc := by
  match k with
  | 1 => exact ⟨_, ticks_succ_of_step (step_qLsnDp (h.atStep hq)) rfl, { hs with lineDp := rfl, pending := rfl }⟩
  | k + 2 =>
    have h1 := step_qLsnDp (h.atStep hq)
    have u1 := h.tick h1
    have h2 := step_qLsnDm (u1.atStep rfl)
    refine exists_ticks_succ h1 (exists_ticks_succ h2 (State.Shows.wait ?_ (u1.tick h2) rfl hts (by omega)))
    exact { hs with lineDp := rfl, lineDm := rfl, pending := rfl }

/-- The REQUEST steps after Q_SET_DP: the new level on D+, and D- still in Listen. -/
theorem requestSteps_setDp (h : Undisturbed (ts + 3) s) (hq : s.seq = .qLsnDp) (hts : waitTicks s.cfg.tSettle = ts)
    (hr : requestTable s.reqMode = some (p, q)) (hs : s.Shows dp none md qc) :
    ∃ t, ticks (ts + 3) s = .next t ∧ t.Shows (some p) none md qc := by
  have h1 := step_qLsnDp (h.atStep hq)
  have u1 := h.tick h1
  have h2 := step_qLsnDm (u1.atStep rfl)
  have u2 := u1.tick h2
  have h3 := ticks_wait (u2.mono (Nat.le_succ ts)) rfl hts
  have h4 := step_qSetDp ((u2.after h3).atStep rfl) hr
  refine exists_ticks_succ h1 (exists_ticks_succ h2 (exists_ticks_add h3 (exists_ticks_succ h4 ⟨_, rfl, ?_⟩)))
  exact { hs with lineDp := symbolic_driven p, lineDm := rfl, pending := rfl }
end RequestRows

section BeginRows
variable (hq : s.seq = .ready) (ho : Offers s 0 0x10000000)
include hq ho

/-- BEGIN before it drives D+: D+ as it was, and D- in Listen from B_HI_DP on. -/
theorem begin_untilDriven (h : Undisturbed j s) (hj : j ≤ 2) :
    ∃ t, ticks j s = .next t ∧ t.lineDp = s.lineDp ∧ (s.lineDm.symbolic = none → t.lineDm.symbolic = none) ∧
      (2 ≤ j → t.lineDm.symbolic = none) ∧ t.mode = s.mode ∧ t.qc = s.qc := by
  match j with
  | 0 => exact ⟨s, rfl, rfl, id, by omega, rfl, rfl⟩
  | 1 => exact ⟨_, ticks_succ_of_step (step_begin (h.atStep hq) ho) rfl, rfl, id, by omega, rfl, rfl⟩
  | 2 =>
    have h1 := step_begin (h.atStep hq) ho
    have h2 := step_bLsnDm ((h.tick h1).atStep rfl)
    exact ⟨_, ticks_succ_of_step h1 (ticks_succ_of_step h2 rfl), rfl, fun _ => rfl, fun _ => rfl, rfl, rfl⟩

variable (hts : waitTicks s.cfg.tSettle = ts) (hhigh : (s.inputAt (ts + 3)).extDmH = true)
include hts hhigh

/-- BEGIN up to the glitch, when the first sample reads high. -/
theorem ticks_toGlitch (h : Undisturbed (ts + 3 + 1) s) :
    ticks (ts + 3 + 1) s = .next { ticked (ts + 3 + 1) s with
      hs := .probeListen, lineDp := ⟨true, true, true⟩, lineDm := s.lineDm.released, timer := 0,
      ir := 0x10000000, readBit := true, seq := .bGliDp } := by
  have u := h.mono (Nat.le_succ (ts + 3))
  have h1 := ticks_toFirstSample u hq ho hts
  have h2 := step_bSmp1_high ((h.after h1).atStep rfl) ((u.pinIn_dm h1 rfl).trans hhigh)
  exact h.ticks_eq (ticks_add_of_ticks h1 (ticks_succ_of_step h2 rfl))

/-- From B_HI_DP to the first sample: D+ at 3300mV. -/
theorem begin_firstHigh (h : Undisturbed j s) (hlo : 3 ≤ j) (hhi : j ≤ ts + 4) :
    ∃ t, ticks j s = .next t ∧ t.Shows (some .mv3300) none s.mode s.qc := by
  obtain hlt | rfl := Nat.lt_or_eq_of_le hhi
  · obtain ⟨k, rfl⟩ := Nat.exists_eq_add_of_le' hlo
    have h1 := step_begin (h.atStep hq) ho
    have u1 := h.tick h1
    have h2 := step_bLsnDm (u1.atStep rfl)
    have u2 := u1.tick h2
    have h3 := step_bHiDp (u2.atStep rfl)
    exact exists_ticks_succ h1 (exists_ticks_succ h2 (exists_ticks_succ h3
      (State.Shows.wait ⟨rfl, rfl, rfl, rfl, rfl⟩ (u2.tick h3) rfl hts (by omega))))
  · exact ⟨_, ticks_toGlitch hq ho hts hhigh h, rfl, rfl, rfl, rfl, rfl⟩

variable (htg : waitTicks s.cfg.tGlitch = tg)
include htg

/-- From B_GLI_DP to the end of the glitch: D+ at 600mV. -/
theorem begin_glitch (h : Undisturbed j s) (hlo : ts + 5 ≤ j) (hhi : j ≤ ts + tg + 5) :
    ∃ t, ticks j s = .next t ∧ t.Shows (some .mv600) none s.mode s.qc := by
  obtain ⟨k, rfl⟩ : ∃ k, j = ts + 3 + 1 + (k + 1) := ⟨j - (ts + 5), by omega⟩
  have h1 := ticks_toGlitch hq ho hts hhigh (h.mono (Nat.le_add_right _ _))
  have u1 := h.after h1
  have h2 := step_bGliDp (u1.atStep rfl)
  exact exists_ticks_add h1 (exists_ticks_succ h2
    (State.Shows.wait ⟨rfl, rfl, rfl, rfl, rfl⟩ (u1.tick h2) rfl htg (by omega)))

/-- From B_HI2_DP to the second sample: D+ at 3300mV again. -/
theorem begin_secondHigh (h : Undisturbed j s) (hlo : ts + tg + 6 ≤ j) (hhi : j ≤ tg + 2 * ts + 6) :
    ∃ t, ticks j s = .next t ∧ t.Shows (some .mv3300) none s.mode s.qc := by
  obtain ⟨k, rfl⟩ : ∃ k, j = ts + 3 + 1 + (tg + (k + 1) + 1) := ⟨j - (ts + tg + 6), by omega⟩
  have h1 := ticks_toGlitch hq ho hts hhigh (h.mono (Nat.le_add_right _ _))
  have u1 := h.after h1
  have h2 := step_bGliDp (u1.atStep rfl)
  have u2 := u1.tick h2
  have h3 := ticks_wait (u2.mono (Nat.le_add_right tg _)) rfl htg
  have u3 := u2.after h3
  have h4 := step_bHi2Dp (u3.atStep rfl)
  exact exists_ticks_add h1 (exists_ticks_succ h2 (exists_ticks_add h3 (exists_ticks_succ h4
    (State.Shows.wait ⟨rfl, rfl, rfl, rfl, rfl⟩ (u3.tick h4) rfl hts (by omega)))))

/-- The second sample itself, whatever it reads, leaves the lines alone. -/
theorem begin_secondSample (h : Undisturbed (tg + 2 * ts + 6 + 1) s) :
    ∃ t, ticks (tg + 2 * ts + 6 + 1) s = .next t ∧ t.lineDp.symbolic = some .mv3300 ∧ t.lineDm.symbolic = none := by
  have h1 := ticks_toSecondSample (h.mono (Nat.le_succ _)) hq ho hts htg hhigh
  have hat := (h.after h1).atStep rfl
  refine exists_ticks_add h1 ?_
  cases hp : pinIn _ .dm .h with
  | false => exact ⟨_, ticks_succ_of_step (step_bSmp2_low hat hp) rfl, rfl, rfl⟩
  | true => exact ⟨_, ticks_succ_of_step (step_bSmp2_high hat hp) rfl, rfl, rfl⟩

/-- BEGIN up to the REQUEST steps for QC-5V, when the second sample reads low. -/
theorem ticks_toLink (hlow : (s.inputAt (tg + 2 * ts + 6)).extDmH = false)
    (h : Undisturbed (tg + 2 * ts + 6 + 1) s) :
    ticks (tg + 2 * ts + 6 + 1) s = .next { ticked (tg + 2 * ts + 6 + 1) s with
      hs := .probeRecheck, lineDp := ⟨true, true, true⟩, lineDm := s.lineDm.released, timer := 0,
      ir := 0x10000000, readBit := false, qc := true, reqMode := .qc5v, lnk := true, seq := .qLsnDp } := by
  have u := h.mono (Nat.le_succ (tg + 2 * ts + 6))
  have h1 := ticks_toSecondSample u hq ho hts htg hhigh
  have h2 := step_bSmp2_low ((h.after h1).atStep rfl) ((u.pinIn_dm h1 rfl).trans hlow)
  exact h.ticks_eq (ticks_add_of_ticks h1 (ticks_succ_of_step h2 rfl))
end BeginRows

/-- Settles O56: row by row of the table of R282; the row of a state is found by its number, and after a low second
sample the numbers go on from the first of the REQUEST steps. -/
theorem beginHoldsEachLevel : Obligations.BeginHoldsEachLevel := by
  intro s ts tg hts htg hready ho hhigh
  have hq := hready.seq
  replace hts := hts.symm
  replace htg := htg.symm
  refine ⟨fun j hj hreset => ?_, fun hlow j hj hj' hreset => ?_⟩
  · have h : Undisturbed j s := ⟨hready.bench, hreset⟩
    obtain hrow | ⟨hlo, hhi⟩ | ⟨hlo, hhi⟩ | ⟨hlo, hhi⟩ | rfl : j ≤ 2 ∨ (3 ≤ j ∧ j ≤ ts + 4) ∨
        (ts + 5 ≤ j ∧ j ≤ ts + tg + 5) ∨ (ts + tg + 6 ≤ j ∧ j ≤ tg + 2 * ts + 6) ∨ j = tg + 2 * ts + 7 := by
      omega
    · obtain ⟨t, ht, hdp, hkept, hdm, hmode, hqc⟩ := begin_untilDriven hq ho h hrow
      exact ⟨t, ht, fun _ => ⟨congrArg _ hdp, hkept⟩, hdm, by omega, by omega, by omega, fun _ => ⟨hmode, hqc⟩⟩
    · obtain ⟨t, ht, hdp, hdm, hmode, hqc, -⟩ := begin_firstHigh hq ho hts hhigh h hlo hhi
      exact ⟨t, ht, by omega, fun _ => hdm, fun _ _ => hdp, by omega, by omega, fun _ => ⟨hmode, hqc⟩⟩
    · obtain ⟨t, ht, hdp, hdm, hmode, hqc, -⟩ := begin_glitch hq ho hts hhigh htg h hlo hhi
      exact ⟨t, ht, by omega, fun _ => hdm, by omega, fun _ _ => hdp, by omega, fun _ => ⟨hmode, hqc⟩⟩
    · obtain ⟨t, ht, hdp, hdm, hmode, hqc, -⟩ := begin_secondHigh hq ho hts hhigh htg h hlo hhi
      exact ⟨t, ht, by omega, fun _ => hdm, by omega, by omega, fun _ => hdp, fun _ => ⟨hmode, hqc⟩⟩
    · obtain ⟨t, ht, hdp, hdm⟩ := begin_secondSample hq ho hts hhigh htg h
      exact ⟨t, ht, by omega, fun _ => hdm, by omega, by omega, fun _ => hdp, by omega⟩
  · obtain ⟨k, rfl⟩ := Nat.exists_eq_add_of_le hj
    have h : Undisturbed _ s := ⟨hready.bench, hreset⟩
    have hlink := ticks_toLink hq ho hts hhigh htg hlow (h.mono (Nat.le_add_right _ k))
    have u := h.after hlink
    refine exists_ticks_add hlink ?_
    obtain rfl | ⟨hlo, hhi⟩ | rfl | rfl : k = 0 ∨ (1 ≤ k ∧ k ≤ ts + 2) ∨ k = ts + 3 ∨ k = ts + 4 := by omega
    · exact ⟨_, rfl, fun _ => ⟨rfl, rfl⟩, by omega, by omega, by omega, iff_of_false nofun (by omega), fun _ => rfl, rfl⟩
    · obtain ⟨t, ht, hdp, hdm, hmode, hqc, hpend⟩ := requestSteps_float u rfl hts ⟨rfl, rfl, rfl, rfl, rfl⟩ hlo hhi
      exact ⟨t, ht, by omega, fun _ _ => ⟨hdp, hdm⟩, by omega, by omega, iff_of_false (by simp [hpend]) (by omega),
        fun _ => hmode, hqc⟩
    · obtain ⟨t, ht, hdp, hdm, hmode, hqc, hpend⟩ := requestSteps_setDp u rfl hts rfl ⟨rfl, rfl, rfl, rfl, rfl⟩
      exact ⟨t, ht, by omega, by omega, fun _ => ⟨hdp, hdm⟩, by omega, iff_of_false (by simp [hpend]) (by omega),
        fun _ => hmode, hqc⟩
    · exact ⟨_, ticks_requestSteps u rfl hts rfl, by omega, by omega, by omega, fun _ => ⟨rfl, rfl⟩,
        iff_of_true rfl (by omega), by omega, rfl⟩
end Sys2Proof.Machine
end
